-- ==== Sys2Proof/Word.lean ====
section
/-! DEFINITION. The word types of the machine (00_scope.md R12, R13, R29) and their plainest conversions. -/

namespace Sys2Proof

/-- A 64-bit register value or virtual address (R12). -/
abbrev Word := BitVec 64
/-- A byte (R29). -/
abbrev Byte := BitVec 8
/-- A 40-bit physical address (R13). -/
abbrev PAddr := BitVec 40
/-- A 5-bit register number (30_encoding.md R353). -/
abbrev Reg := BitVec 5
/-- A 16-bit immediate or offset field (30_encoding.md R351). -/
abbrev Imm16 := BitVec 16

/-- `x[31:0]` (R23). -/
abbrev lo32 (x : Word) : BitVec 32 := x.extractLsb' 0 32
/-- `x[63:32]` (R23). -/
abbrev hi32 (x : Word) : BitVec 32 := x.extractLsb' 32 32
/-- `sext_64` of a word (R25). -/
abbrev sext32 (x : BitVec 32) : Word := x.signExtend 64
/-- `sext_64` of a 16-bit immediate (R25). -/
abbrev sext16 (x : Imm16) : Word := x.signExtend 64
/-- `zext_64` of a 16-bit immediate (R25). -/
abbrev zext16 (x : Imm16) : Word := x.setWidth 64

end Sys2Proof
end

