-- ==== Sys2Proof/Config.lean ====
section
/-! DEFINITION. What the spec leaves to an implementation: the free values (one opaque constant, no
body, so nothing is provable about a particular value) and the parameters of 00_scope.md R22 that are
plain data. -/

namespace Sys2Proof

/-- The points at which the spec leaves a value open; each names the rule that leaves it open. -/
inductive DrawName where
  /-- HI, LO or `rd` after a division by zero (42_muldiv.md R502, R519). -/
  | divByZero
  /-- The Random sequence (11_cp0_registers.md R154). -/
  | random
  /-- The upper half of an FPR after a 32-bit write with FR = 1 (10_state.md R114). -/
  | fprUpper
  /-- EntryLo0 and EntryLo1 after a TLB exception (60_exceptions.md R862). -/
  | entryLo
  /-- BadVAddr after a soft reset or NMI (11_cp0_registers.md R168). -/
  | badVAddr
  /-- TagHi[31:30] after Index Load Tag (D) (11_cp0_registers.md R226). -/
  | stateMod
  /-- Index[5:0] after a TLBP that misses (11_cp0_registers.md R155). -/
  | probeMiss
  /-- A read of LLAddr (11_cp0_registers.md R200). -/
  | llAddr
  /-- SC to an address other than the linked one (40_load_store.md R431). -/
  | scOther
  /-- Whether a load to register 0 fills the caches (40_load_store.md R403). -/
  | prefetch
  /-- By how much Count advances in a step (11_cp0_registers.md R170). -/
  | countAdvance
  /-- By how much a performance counter advances in a step (11_cp0_registers.md R219). -/
  | perfAdvance
  /-- Whether the DLL locks in this step (61_platform.md R922). -/
  | ddrLock
  /-- The way a level-1 instruction fill replaces (10_state.md R132). -/
  | victimI
  /-- The way a level-1 data fill replaces (10_state.md R132). -/
  | victimD
  /-- The way a level-2 fill replaces (10_state.md R132). -/
  | victimS
  /-- Whether a filled data line is Shared or Exclusive, and its W bit (10_state.md R130). -/
  | fillD
  /-- The clean state of a filled level-2 line (10_state.md R131). -/
  | fillS
  /-- The ITLB entry a refill replaces (20_memory.md R284). -/
  | victimItlb
  /-- An instruction-cache line that nothing has written since reset (10_state.md R132). -/
  | resetI
  /-- A data-cache line that nothing has written since reset (10_state.md R132). -/
  | resetD
  /-- A level-2 line that nothing has written since reset (10_state.md R132). -/
  | resetS
  /-- The data of a device read (61_platform.md R978). -/
  | deviceRead
  /-- How a PCI target answers a read (20_memory.md R310, 70_reset_and_hazards.md R1016). -/
  | deviceReply
  /-- A read of an unassigned or write-only IO location (61_platform.md R910, R942, R950). -/
  | ioOpen
  /-- A DDR2 read before the DLL locks, or beyond the memory (61_platform.md R922, R926). -/
  | ddrOpen
  /-- The write-only bits of a DDR2 configuration register when read (61_platform.md R924). -/
  | ddrRegOpen
  /-- A DMA read that misses every PCIDMA window (61_platform.md R918). -/
  | dmaOpen
  /-- Which of several held ITLB pages that match a fetch uses (10_state.md R128). -/
  | pickItlb
  /-- For how many steps Count may stand still (11_cp0_registers.md R170). -/
  | countStall
  /-- For how many steps the DLL may take to lock (61_platform.md R922). -/
  | ddrStall
  /-- Whether the prefetch window accepts a block read of PCI memory (61_platform.md R935). -/
  | memWindow
  /-- How a read that is refused or given up ends (61_platform.md R931, R935, R938). -/
  | refusedRead
  /-- `dll_lock` once the DLL has locked (61_platform.md R924). -/
  | dllLock
  /-- The DDR2 error registers after a condition is reported (61_platform.md R924). -/
  | ddrError
deriving DecidableEq, Repr

/-- The free values: `Config.draw name tick k` is the value the point `name` takes at the model's
counter `tick`, `k` telling apart several in one step. It has no body (00_scope.md R28). -/
opaque Config.draw (name : DrawName) (tick : Nat) (k : Nat) : BitVec 256

/-- One part of the `BUS_ERROR` predicate: reads of `width` bytes at the physical addresses `first` to
`last` (00_scope.md R22). -/
structure BusErrorRange where
  first : Nat
  last : Nat
  width : Nat
deriving DecidableEq, Repr

/-- The parameters of 00_scope.md R22 that are plain data, with the constraints the spec puts on them;
their defaults are those of 92_eei_decisions.md. Nothing the machine does changes them. -/
structure ChipParams where
  /-- `STATUS_NOFDIV_BIT` (11_cp0_registers.md R184). -/
  nofdivBit : Nat := 25
  /-- `STATUS_NOFSQR_BIT` (R184). -/
  nofsqrBit : Nat := 24
  /-- `DIAG_BITS`: RAS (R210). -/
  diagRas : Nat := 0
  /-- `DIAG_BITS`: BTB (R210). -/
  diagBtb : Nat := 1
  /-- `DIAG_BITS`: ITLB (R210). -/
  diagItlb : Nat := 2
  /-- `DIAG_BITS`: S-FET (R210). -/
  diagSFet : Nat := 3
  /-- `DIAG_BITS`: S-ISS (R210). -/
  diagSIss : Nat := 4
  /-- `DIAG_BITS`: W-ISS (R210). -/
  diagWIss : Nat := 5
  /-- `DIAG_BITS`: W-CAC (R210). -/
  diagWCac : Nat := 6
  /-- `DIAG_BITS`: U-Mode (R210). -/
  diagUMode : Nat := 7
  /-- `PERF_ENABLE_ORDER`: the bit of K (R217). -/
  perfK : Nat := 1
  /-- `PERF_ENABLE_ORDER`: the bit of S (R217). -/
  perfS : Nat := 2
  /-- `PERF_ENABLE_ORDER`: the bit of U (R217). -/
  perfU : Nat := 3
  /-- `PERF_ENABLE_ORDER`: the bit of EXL (R217). -/
  perfExl : Nat := 0
  /-- `ENTRYLO_E_BIT` (R159). -/
  entryLoEBit : Nat := 63
  /-- `ERET_ERL_TARGET` is ErrorEPC (46_cp0_privileged.md R674). -/
  eretErrorEpc : Bool := false
  /-- Whether a held ITLB translation is compared with the current ASID (20_memory.md R285). -/
  itlbAsid : Bool := true
  /-- Whether a fetch from a page with E = 1 and V = 0 is the address error, the order of 60_exceptions.md
  R836, and not TLB invalid, the order of 20_memory.md R278, which is the default: two rules of the spec
  that exclude each other. The model's own parameter, not one of R22. DESIGN CHOICE, log 48. -/
  noExecFirst : Bool := false
  /-- `DDR_SIZE` in bytes (61_platform.md R978). -/
  ddrSize : Nat := 2 ^ 28
  /-- `BUS_ERROR` (R978): the reads of devices that are answered with an error; asked of device
  reads only, so false on DDR2, the ROMs and the registers (60_exceptions.md R865). -/
  busErrors : List BusErrorRange := []
  /-- The pins `PCI_CONFIG[7:0]` at power-on (61_platform.md R975). -/
  pciConfig : BitVec 8 := 0
  /-- The pins `SYS_CLKSEL[9:0]` at power-on (61_platform.md R975). -/
  sysClksel : BitVec 10 := 0
  /-- The pins `LIO_AD[15:0]` at power-on (61_platform.md R975). -/
  lioAd : BitVec 16 := 0
  /-- The two unit-disable bits lie in Status[25:23] and are distinct (11_cp0_registers.md R184). -/
  unitBits_ok : 23 ≤ nofdivBit ∧ nofdivBit ≤ 25 ∧ 23 ≤ nofsqrBit ∧ nofsqrBit ≤ 25 ∧ nofdivBit ≠ nofsqrBit := by
    decide
  /-- The eight Diagnostic fields are distinct bits of a 64-bit register (R210). -/
  diagBits_ok : [diagRas, diagBtb, diagItlb, diagSFet, diagSIss, diagWIss, diagWCac, diagUMode].Nodup
      ∧ ∀ b ∈ [diagRas, diagBtb, diagItlb, diagSFet, diagSIss, diagWIss, diagWCac, diagUMode], b < 64 := by
    decide
  /-- The four enables are bits [3:0] in some order; EXL is bit 0 in both readings (R217). -/
  perfBits_ok : [perfK, perfS, perfU, perfExl].Nodup ∧ (∀ b ∈ [perfK, perfS, perfU], b ≤ 3) ∧ perfExl = 0 := by
    decide
  /-- E lies above the PFN (R159). -/
  entryLoEBit_ok : 34 ≤ entryLoEBit ∧ entryLoEBit ≤ 63 := by decide
  /-- The DDR2 controller's maximum (92_eei_decisions.md, `DDR_SIZE`). -/
  ddrSize_ok : ddrSize ≤ 2 ^ 37 := by decide
deriving DecidableEq, Repr

/-- `BUS_ERROR(pa, width)` (00_scope.md R22). -/
def ChipParams.busErrorAt (p : ChipParams) (pa n : Nat) : Bool :=
  p.busErrors.any fun r => r.first ≤ pa && pa ≤ r.last && r.width == n

end Sys2Proof
end

