-- ==== Sys2Proof/Machine/State.lean ====
section
/-! DEFINITION. The state of the machine as plain data (10_state.md, 11_cp0_registers.md,
61_platform.md), the reasons a step can stop, and the machine after cold reset
(70_reset_and_hazards.md R992). INVENTORY.md lists every field with its rule and reset value. -/

namespace Sys2Proof.Machine

/-- Why the machine stops. Every one is behaviour the spec calls undefined, so stopping is safe: no
claim about what hardware does there can be proved. -/
inductive Fault where
  /-- KSU = 3 with EXL = ERL = 0 (U1, 11_cp0_registers.md R185). Raised by the step and the address check. Safe. -/
  | undefinedMode
  /-- Two JTLB entries match one address, or a TLB write makes two that would (U2, 20_memory.md R279). Safe. -/
  | tlbMultipleMatch
  /-- TLBWI or TLBWR with a PageMask outside Table 5-6 (U3, 11_cp0_registers.md R164). Safe. -/
  | tlbIllegalMask
  /-- A mapped translation while page sizes differ (U4, 11_cp0_registers.md R165). Safe. -/
  | tlbMixedPageSizes
  /-- A cached load, store or fetch before all three caches are initialised (U7, 20_memory.md R299). Safe. -/
  | cacheUninitialised
  /-- A branch, jump or ERET in a delay slot (U8, 43_branch_jump.md R555). Safe. -/
  | branchInDelaySlot
  /-- CACHE with an operation outside Table 8-3 (U9, 46_cp0_privileged.md R682). Safe. -/
  | cacheOpUndefined
  /-- CACHE on an uncached address (U10, 46_cp0_privileged.md R682). Safe. -/
  | cacheOnUncached
  /-- A 64-bit or PS operand in an odd register with FR = 0 (U20, 10_state.md R114). Safe. -/
  | fprOddRegister
  /-- CFC1 or CTC1 of a control register other than 0 and 31 (U21, 10_state.md R117). Safe. -/
  | fcrUndefined
  /-- A write of another width than 64 bits to an address-window register (U41, 61_platform.md R912). Safe. -/
  | windowRegWidth
  /-- An access through a window whose route is 2 or 3 (U42, 61_platform.md R913). Safe. -/
  | windowRoute
  /-- An address that hits two windows of one master (U43, 61_platform.md R914). Safe. -/
  | windowOverlap
  /-- An access of a type Table 11-1 does not allow there (U46, 61_platform.md R910, R950). Safe. -/
  | ioAccessWidth
  /-- An IO-controller address in the row of Table 11-1 that allows no access (61_platform.md R910). Safe. -/
  | ioNoSuchSpace
  /-- A PCI read retried for ever with mas_retry_value = 0: stuck (U48, 70_reset_and_hazards.md R1016). Safe. -/
  | pciRetryForever
  /-- A write of another width than 64 bits to a DDR2 configuration register (61_platform.md R923). Safe. -/
  | ddrRegWidth
deriving DecidableEq, Repr

/-- Why the model declines a word. Each is a point where the spec says refuse; declining is safe. -/
inductive Refusal where
  /-- An instruction without a meaning in the model; raised by no arm of the finished table. Safe. -/
  | notModelled (mnemonic : String)
  /-- A possible multimedia instruction (U30, 30_encoding.md R391). Raised by the step. Safe. -/
  | multimedia
  /-- A field that must be zero is not (U31, 30_encoding.md R371). Raised by the step. Safe. -/
  | mustBeZero
  /-- Diagnostic W-CAC, W-ISS, S-ISS or S-FET written 1 (U12, 11_cp0_registers.md R212). Safe. -/
  | diagnosticSerialisation
  /-- DIV.fmt with NOFDIV = 1 or SQRT.fmt with NOFSQR = 1 (U24, 47_fpu.md R715). Safe. -/
  | fpUnitDisabled
deriving DecidableEq, Repr

/-- The exceptions of kinds (b) and (c) of 60_exceptions.md R831, with what each one's entry records. -/
inductive Exc where
  /-- Interrupt, code 0 (R880). -/
  | int
  /-- TLB modified, code 1 (R863). -/
  | tlbModified (va : Word)
  /-- TLB refill, code 2 or 3 (R860). -/
  | tlbRefill (store : Bool) (va : Word)
  /-- TLB invalid, code 2 or 3 (R861). -/
  | tlbInvalid (store : Bool) (va : Word)
  /-- Address error, code 4 or 5 (R855). -/
  | addressError (store : Bool) (va : Word)
  /-- Bus error, code 6 for a fetch and 7 for data (R865). -/
  | busError (fetch : Bool)
  /-- System call, code 8 (R868). -/
  | syscall
  /-- Breakpoint, code 9 (R869). -/
  | breakpoint
  /-- Reserved instruction, code 10 (R870). -/
  | reserved
  /-- Coprocessor unusable, code 11, with Cause.CE (R871). -/
  | coprocessor (unit : BitVec 2)
  /-- Integer overflow, code 12 (R866). -/
  | overflow
  /-- Trap, code 13 (R867). -/
  | trap
  /-- Floating-point exception, code 15 (R872). -/
  | fpe
  /-- Watch, code 23 (R873). -/
  | watch
deriving DecidableEq, Repr

/-- The operating modes (60_exceptions.md R890). -/
inductive Mode where
  | kernel
  | supervisor
  | user
deriving DecidableEq, Repr

/-- One page of a JTLB entry (10_state.md R126). -/
structure TlbPage where
  pfn : BitVec 28
  c : BitVec 3
  d : Bool
  v : Bool
  e : Bool
deriving DecidableEq, Repr

/-- A JTLB entry (10_state.md R126). -/
structure TlbEntry where
  mask : BitVec 12
  r : BitVec 2
  vpn2 : BitVec 27
  g : Bool
  asid : BitVec 8
  even : TlbPage
  odd : TlbPage
deriving DecidableEq, Repr

/-- An ITLB entry: one page (10_state.md R128); `vpn` is VA[39:12] with the bits inside the page cleared. -/
structure ItlbEntry where
  r : BitVec 2
  vpn : BitVec 28
  g : Bool
  asid : BitVec 8
  mask : BitVec 12
  page : TlbPage
deriving DecidableEq, Repr

/-- An instruction-cache line (10_state.md R129). -/
structure ILine where
  v : Bool
  tag : BitVec 28
  data : BitVec 256
deriving DecidableEq, Repr

/-- A data-cache line (10_state.md R130): `cs` 00 Invalid, 01 Shared, 10 Exclusive, 11 Dirty. -/
structure DLine where
  w : Bool
  cs : BitVec 2
  tag : BitVec 28
  way : BitVec 2
  data : BitVec 256
deriving DecidableEq, Repr

/-- A level-2 line (10_state.md R131): `st` 00 Invalid, 11 Dirty, else clean. -/
structure SLine where
  st : BitVec 2
  tag : BitVec 23
  data : BitVec 256
deriving DecidableEq, Repr

/-- The uncached-accelerated gather buffer in use (10_state.md R134): PA[39:5], bytes, and which bytes are held. -/
structure GatherBuf where
  line : BitVec 35
  data : BitVec 256
  held : BitVec 32
deriving DecidableEq, Repr

/-- The levels of the interrupt inputs (61_platform.md R945). -/
structure Pins where
  int : BitVec 4
  gpio : BitVec 4
  pciInt : BitVec 4
  perr : Bool
  serr : Bool
deriving DecidableEq, Repr

/-- What an access is for (60_exceptions.md R855, R860). -/
inductive Access where
  | load
  | store
  | fetch
deriving DecidableEq, Repr

/-- What lies at the other side of the boundary (61_platform.md R910). -/
inductive BusSpace where
  /-- PCI memory, by PCI address (R935). -/
  | pciMem
  /-- PCI IO, by port (R935). -/
  | pciIo
  /-- PCI configuration, by PCIMap_Cfg and offset (R934). -/
  | pciConf
  /-- Local IO (R938). -/
  | lioIo
  /-- The ROMs, for writes (R938). -/
  | rom
  /-- The display accelerator (R970). -/
  | video
  /-- DDR2 read by a PCI master (R936). -/
  | dma
deriving DecidableEq, Repr

/-- One event at the boundary (00_scope.md R10). -/
structure BusEvent where
  space : BusSpace
  write : Bool
  addr : Nat
  size : Nat
  data : BitVec 256
deriving DecidableEq, Repr

/-- What the outside, or hardware housekeeping the spec leaves free, does before a step
(00_scope.md R33, 61_platform.md R978). -/
inductive InputEvent where
  /-- The interrupt inputs take these levels (61_platform.md R945). -/
  | pins (p : Pins)
  /-- NMIn goes low (60_exceptions.md R850). -/
  | nmi
  /-- A soft reset (60_exceptions.md R850). -/
  | softReset
  /-- The reset pin (60_exceptions.md R851). -/
  | coldReset
  /-- A PCI master writes bytes at a PCI address (61_platform.md R936). -/
  | dmaWrite (addr : BitVec 64) (bytes : List Byte)
  /-- A PCI master reads bytes at a PCI address (61_platform.md R936). -/
  | dmaRead (addr : BitVec 64) (n : Nat)
  /-- The DDR2 controller reports conditions in int_status[8:0] (61_platform.md R926). -/
  | ddrStatus (bits : BitVec 9)
  /-- PCI traffic is reported in the status bits of a word of the PCI header (61_platform.md R930, R931). -/
  | pciStatus (word : Fin 64) (bits : BitVec 32)
  /-- The PCI arbiter finds these masters broken, and `last` was granted the bus last (61_platform.md R937). -/
  | pciArb (broken : Byte) (last : BitVec 3)
  /-- The core fetches speculatively (70_reset_and_hazards.md R1015). -/
  | specFetch (va : Word)
  /-- The core issues a cached load early or on a wrong path (20_memory.md R302). -/
  | specLoad (va : Word)
  /-- A data-cache line is replaced (20_memory.md R292, R301). -/
  | evictD (set : BitVec 9) (way : BitVec 2)
  /-- A level-2 line is replaced (20_memory.md R292, R301). -/
  | evictS (set : BitVec 12) (way : BitVec 2)
  /-- An instruction-cache line is dropped (20_memory.md R296). -/
  | dropI (set : BitVec 9) (way : BitVec 2)
  /-- An ITLB entry is dropped (20_memory.md R285). -/
  | dropItlb (n : Nat)
  /-- The gather buffer goes out (20_memory.md R297). -/
  | drainGather
deriving DecidableEq, Repr

/-- Bytes by address, in canonical form (`Memory.wf`). -/
abbrev Memory := List Host.Cell

/-- The chip outside the core (61_platform.md). -/
structure Chip where
  /-- The 24 window registers: CPU BASE, MASK, MMAP, then PCIDMA BASE, MASK, MMAP (R912). -/
  winRegs : Vector Word 24
  /-- CONF_CTL_00..28 (R923). -/
  ddrRegs : Vector Word 29
  /-- START has been written (R922). -/
  ddrStarted : Bool
  /-- `ddr_ready` (R922). -/
  ddrReady : Bool
  /-- The steps since START in which the DLL did not lock (R922). -/
  ddrWait : Nat
  /-- The IO control registers, by offset / 4 (R950). -/
  ioRegs : Vector (BitVec 32) 64
  /-- The PCI header, by offset / 4 (R930). -/
  pciHdr : Vector (BitVec 32) 64
  /-- The pulse records of the interrupt sources (R940). -/
  pulse : BitVec 15
  /-- The source levels one step ago (R940). -/
  prevLevels : BitVec 15
  /-- The input levels (R945). -/
  pins : Pins
deriving DecidableEq, Repr

/-- The memory system. -/
structure MemSys where
  /-- Instruction-cache lines by set * 4 + way; one not listed is as reset left it. -/
  icache : List (Nat × ILine)
  /-- Data-cache lines by set * 4 + way; one not listed is as reset left it. -/
  dcache : List (Nat × DLine)
  /-- Level-2 lines by set * 4 + way; one not listed is as reset left it. -/
  scache : List (Nat × SLine)
  /-- The gather buffer, when it holds something. -/
  gather : Option GatherBuf
  /-- DDR2 by DDR2 address. -/
  ddr : Memory
  /-- The ROMs by IO-controller address. -/
  rom : Memory
  chip : Chip
  /-- What reached a device or a master, newest first. -/
  busLog : List BusEvent
  /-- The instruction-cache lines (set * 4 + way) that no Index Invalidate has reached since reset, as
  ranges from the first up to but not the second number (20_memory.md R299). -/
  coldI : List (Nat × Nat)
  /-- The data-cache lines that no Index Store Tag has reached since reset (R299). -/
  coldD : List (Nat × Nat)
  /-- The level-2 lines that no Index Store Tag has reached since reset (R299). -/
  coldS : List (Nat × Nat)
deriving DecidableEq, Repr

/-- The CP0 registers (11_cp0_registers.md). -/
structure Cp0 where
  index : BitVec 32
  random : BitVec 6
  /-- Random was set to 63 by a write of Wired in this step (R154). -/
  randomFresh : Bool
  entryLo0 : Word
  entryLo1 : Word
  context : Word
  pageMask : BitVec 32
  wired : BitVec 6
  badVAddr : Word
  count : BitVec 32
  /-- The steps since Count last moved (R170). -/
  countWait : Nat
  entryHi : Word
  compare : BitVec 32
  status : BitVec 32
  /-- BD, CE, IP[1:0] and ExcCode; IP[7:2] are computed (R192). -/
  cause : BitVec 32
  /-- The latch behind IP[7] (R171). -/
  timer : Bool
  epc : Word
  config : BitVec 32
  watch : Word
  xcontext : Word
  diag : Word
  perfCtl : BitVec 32
  perfCnt0 : BitVec 32
  perfCnt1 : BitVec 32
  tagLo : BitVec 32
  tagHi : BitVec 32
  errorEpc : Word
deriving DecidableEq, Repr

/-- The whole machine. -/
structure State where
  gpr : Vector Word 32
  hi : Word
  lo : Word
  pc : Word
  /-- The pending branch target (10_state.md R107). -/
  nextPc : Option Word
  /-- The instruction at `pc` is in a delay slot (10_state.md R107). -/
  inSlot : Bool
  llBit : Bool
  llAddr : PAddr
  fpr : Vector Word 32
  fcr31 : BitVec 32
  cp0 : Cp0
  tlb : Vector TlbEntry 64
  itlb : List ItlbEntry
  mem : MemSys
  /-- An NMI seen and not yet taken. -/
  nmi : Bool
  /-- What the outside does, one inner list before each coming step. -/
  inputs : List (List InputEvent)
  /-- The counter the free values are indexed by. -/
  tick : Nat
  params : ChipParams
deriving DecidableEq, Repr

/-- The reset vector (60_exceptions.md R833). -/
def resetVector : Word := 0xFFFFFFFFBFC00000

/-- No interrupt input is active: INTn, GPIO and PCI INTn# high, PERR and SERR low (61_platform.md R941). -/
def Pins.quiet : Pins := { int := 0xF, gpio := 0xF, pciInt := 0xF, perr := false, serr := false }

/-- The address-window registers after reset (61_platform.md R912, with R918 for PCIDMA_WIN0_MASK). -/
def winRegsReset : Vector Word 24 := #v[
  0x0000000000000000, 0x0000000010000000, 0xFFFFFFFFFFF00000, 0xFFFFFFFFFFF00000,
  0xFFFFFFFFF0000000, 0xFFFFFFFFF0000000, 0xFFFFFFFFFFF00000, 0xFFFFFFFFFFF00000,
  0x0000000000000000, 0x0000000010000001, 0, 0,
  0x0000000080000000, 0xFFFFFFFFFFF00000, 0xFFFFFFFFFFF00000, 0xFFFFFFFFFFF00000,
  0xFFFFFFFFF0000000, 0xFFFFFFFFFFF00000, 0xFFFFFFFFFFF00000, 0xFFFFFFFFFFF00000,
  0, 0xFFFFFFFFFFF00000, 0xFFFFFFFFFFF00000, 0xFFFFFFFFFFF00000]

/-- The DDR2 configuration registers after reset (61_platform.md R924). -/
def ddrRegsReset : Vector Word 29 := #v[
  0, 0, 0, 0, 0, 0x0000000400000000, 0, 0x0F0E000000000000, 0, 0,
  0, 0, 0, 0, 0, 0, 0, 0, 0, 0,
  0x0000204100000000, 0, 0, 0, 0, 0, 0, 0, 0]

/-- The IO control registers after reset (70_reset_and_hazards.md R992); PonCfg, rom_width and
Chip_Sample1 take the pin samples (61_platform.md R938, R951, R975). -/
def ioRegsReset (p : ChipParams) : Vector (BitVec 32) 64 := #v[
  (0 : BitVec 8) ++ p.pciConfig ++ p.lioAd, 0,
  0x00001F7C ||| (if p.pciConfig.getLsbD 0 then 0x80 else 0), 0,
  0, 0x18, 0, 0,
  0xF, 0x0300, 0, 0x0700,
  0, 0, 0, 0,
  0, 0, 0, 0,
  0x00000006, 0x80000000, 0x00000006, 0x80000000,
  0x00000006, 0x80000000, 0x1C5, 0,
  0, 0, 0, 0,
  0x617, 0xF80, 0x780, 0,
  0, p.sysClksel.setWidth 32, 0, 0,
  0, 0, 0, 0, 0, 0, 0, 0, 0, 0, 0, 0,
  0, 0, 0, 0, 0, 0, 0, 0, 0, 0, 0, 0]

/-- The PCI header after reset: ISR4C mas_read_defer_cnt = 2 (61_platform.md R931), the rest 0. -/
def pciHdrReset : Vector (BitVec 32) 64 :=
  (Vector.replicate 64 0).set 19 0x02000000

/-- The chip after cold reset. -/
def Chip.reset (p : ChipParams) : Chip :=
  { winRegs := winRegsReset
    ddrRegs := ddrRegsReset
    ddrStarted := false
    ddrReady := false
    ddrWait := 0
    ioRegs := ioRegsReset p
    pciHdr := pciHdrReset
    pulse := 0
    prevLevels := 0x78FF
    pins := Pins.quiet }

/-- The memory system after cold reset: every cache line unspecified, the gather buffer empty, the given
content in the ROMs. -/
def MemSys.reset (p : ChipParams) (rom : Memory) : MemSys :=
  { icache := [], dcache := [], scache := [], gather := none, ddr := [], rom := rom
    chip := Chip.reset p, busLog := [], coldI := [(0, 2048)], coldD := [(0, 2048)], coldS := [(0, 16384)] }

/-- The CP0 registers after cold reset (11_cp0_registers.md R231). -/
def Cp0.reset : Cp0 :=
  { index := 0, random := 63, randomFresh := false, entryLo0 := 0, entryLo1 := 0, context := 0
    pageMask := 0, wired := 0, badVAddr := 0, count := 0, countWait := 0, entryHi := 0, compare := 0
    status := 0x30400004, cause := 0, timer := false, epc := 0, config := 0x00030932, watch := 0
    xcontext := 0, diag := 0, perfCtl := 0, perfCnt0 := 0, perfCnt1 := 0, tagLo := 0, tagHi := 0
    errorEpc := 0 }

/-- A page that nothing maps. -/
def TlbPage.empty : TlbPage := { pfn := 0, c := 0, d := false, v := false, e := false }

/-- The JTLB after reset: the region bits 10 match no mapped address, and no two entries match each other
(the initialisation of 70_reset_and_hazards.md R995 item 2). DESIGN CHOICE, log 4. -/
def tlbReset : Vector TlbEntry 64 :=
  Vector.ofFn fun i => { mask := 0, r := 2, vpn2 := BitVec.ofNat 27 i.val, g := false, asid := 0
                         even := TlbPage.empty, odd := TlbPage.empty }

/-- The machine right after a cold reset with the given parameters and `BOOT_ROM` content
(70_reset_and_hazards.md R992, 00_scope.md R22). -/
def State.resetWith (p : ChipParams) (rom : Memory := []) : State :=
  { gpr := Vector.replicate 32 0, hi := 0, lo := 0, pc := resetVector, nextPc := none, inSlot := false
    llBit := false, llAddr := 0, fpr := Vector.replicate 32 0, fcr31 := 0, cp0 := Cp0.reset
    tlb := tlbReset, itlb := [], mem := MemSys.reset p rom, nmi := false, inputs := [], tick := 0
    params := p }

/-- The machine right after a cold reset, at the default parameters, with nothing in the ROMs. -/
def State.reset : State := State.resetWith {}

end Sys2Proof.Machine
end

