-- ==== Sys2Proof/Machine/Bits.lean ====
section
/-! DEFINITION. Bit-field helpers, free values, and sparse maps kept in one canonical form. -/

namespace Sys2Proof.Machine

/-- The free value of a point, cut to width `w` (00_scope.md R28). -/
def draw (w : Nat) (name : DrawName) (tick k : Nat) : BitVec w :=
  (Config.draw name tick k).setWidth w

/-- `x` with the bits of `mask` replaced by those of `v`. -/
def merge {w : Nat} (mask x v : BitVec w) : BitVec w := (x &&& ~~~mask) ||| (v &&& mask)

/-- `x` with bit `i` set to `b`. -/
def setBit {w : Nat} (x : BitVec w) (i : Nat) (b : Bool) : BitVec w :=
  merge (BitVec.twoPow w i) x (if b then BitVec.twoPow w i else 0)

/-- The mask of bytes `off .. off + n - 1`. -/
def byteMask (w off n : Nat) : BitVec w := BitVec.ofNat w ((2 ^ (8 * n) - 1) <<< (8 * off))

/-- Bytes `off .. off + n - 1` of `x`, as a number (20_memory.md R251). -/
def getBytes {w : Nat} (x : BitVec w) (off n : Nat) : BitVec 256 :=
  ((x >>> (8 * off)) &&& byteMask w 0 n).setWidth 256

/-- `x` with bytes `off .. off + n - 1` replaced by the low bytes of `v` (20_memory.md R251). -/
def putBytes {w : Nat} (x : BitVec w) (off n : Nat) (v : BitVec 256) : BitVec w :=
  merge (byteMask w off n) x (v.setWidth w <<< (8 * off))

/-- The entry of a sparse map at key `k`. -/
def mapGet {α : Type} (k : Nat) : List (Nat × α) → Option α
  | [] => none
  | (j, a) :: r => if j = k then some a else mapGet k r

/-- The sparse map with key `k` set to `a`, keys rising. -/
def mapPut {α : Type} (k : Nat) (a : α) : List (Nat × α) → List (Nat × α)
  | [] => [(k, a)]
  | (j, b) :: r =>
    if k < j then (k, a) :: (j, b) :: r
    else if j = k then (k, a) :: r
    else (j, b) :: mapPut k a r

/-- The sparse map without key `k`. -/
def mapErase {α : Type} (k : Nat) : List (Nat × α) → List (Nat × α)
  | [] => []
  | (j, b) :: r => if j = k then r else (j, b) :: mapErase k r

/-- The keys rise strictly. -/
def mapSorted {α : Type} (l : List (Nat × α)) : Bool :=
  decide (l.Pairwise fun x y => x.1 < y.1)

/-- What a byte that nothing has written reads as: a DESIGN CHOICE (log 6). -/
def unlistedByte : Byte := 0

/-- The canonical form of a memory: addresses strictly rising, no entry equal to the unlisted byte. -/
def Memory.wf (m : Memory) : Bool := mapSorted m && m.all (fun c => c.2 != unlistedByte)

/-- The byte at an address (20_memory.md R252). -/
def readByte (m : Memory) (a : Nat) : Byte := (mapGet a m).getD unlistedByte

/-- Memory with one byte written, in canonical form. -/
def writeByte (m : Memory) (a : Nat) (b : Byte) : Memory :=
  if b = unlistedByte then mapErase a m else mapPut a b m

/-- `n` bytes from `a`, the lowest address least significant (20_memory.md R250). -/
def readBytes (m : Memory) (a : Nat) : Nat → BitVec 256
  | 0 => 0
  | n + 1 => (readBytes m (a + 1) n <<< 8) ||| (readByte m a).setWidth 256

/-- The low `n` bytes of `v` written from `a` up (20_memory.md R250). -/
def writeBytes (m : Memory) (a : Nat) (v : BitVec 256) : Nat → Memory
  | 0 => m
  | n + 1 => writeBytes (writeByte m a (v.setWidth 8)) (a + 1) (v >>> 8) n

end Sys2Proof.Machine
end

