-- ==== Sys2Proof/Machine/Chip.lean ====
section
/-! DEFINITION. The registers of the chip outside the core: address windows, DDR2 configuration, IO
control registers, PCI header, and the interrupt controller (61_platform.md). -/

namespace Sys2Proof.Machine

/-- What a memory-system operation reads besides the memory system: the parameters and the counter. -/
structure MemCtx where
  params : ChipParams
  tick : Nat
deriving DecidableEq, Repr

/-- One IO control register by its offset / 4. -/
def Chip.io (c : Chip) (i : Fin 64) : BitVec 32 := c.ioRegs[i]

/-- One IO control register written. -/
def Chip.setIo (c : Chip) (i : Fin 64) (v : BitVec 32) : Chip := { c with ioRegs := c.ioRegs.set i v }

/-- `GenCfg.ov_en` (R952). -/
def Chip.ovEn (c : Chip) : Bool := (c.io 1).getLsbD 0
/-- `LIOCfg.iopf_en` (R938). -/
def Chip.iopfEn (c : Chip) : Bool := (c.io 2).getLsbD 14
/-- `Chip_Config0.Freq_scale` (R965). -/
def Chip.freqScale (c : Chip) : BitVec 3 := (c.io 32).extractLsb' 0 3
/-- `Chip_Config0.disable_scache` (R965). -/
def Chip.disableScache (c : Chip) : Bool := (c.io 32).getLsbD 3
/-- `Chip_Config0.disable_ddr_conf` (R965). -/
def Chip.disableDdrConf (c : Chip) : Bool := (c.io 32).getLsbD 8
/-- `ISR58.mas_retry_value` (R931). -/
def Chip.masRetryValue (c : Chip) : BitVec 8 := c.pciHdr[22].extractLsb' 8 8

/-- The level seen on each GPIO pin: the environment's for an input, `gpio_out` for an output (R939). -/
def Chip.gpioIn (c : Chip) : BitVec 4 :=
  merge ((c.io 8).extractLsb' 0 4) ((c.io 7).extractLsb' 0 4) c.pins.gpio

/-- `int_status` (R926): the recorded conditions, bit 9 among them, and bit 10 their OR. -/
def Chip.ddrIntStatus (c : Chip) : BitVec 11 :=
  let low := c.ddrRegs[16].extractLsb' 48 10
  BitVec.ofBool (low != 0) ++ low

/-- The DDR2 controller's interrupt output (R926, R945): high while a bit of `int_status`, the OR bit
included, is set and `INT_MASK` does not mask it, so that only a mask of every set bit silences it; how
the mask and the OR bit make the output is not stated. DESIGN CHOICE, log 33. -/
def Chip.ddrInt (c : Chip) : Bool :=
  (c.ddrIntStatus &&& ~~~(c.ddrRegs[16].extractLsb' 32 11)) != 0

/-- The fifteen source levels: GPIO 3:0, PCI INT 7:4, PERR 8, SERR 9, DDR2 10, INT 14:11 (R941). -/
def Chip.levels (c : Chip) : BitVec 15 :=
  c.pins.int ++ BitVec.ofBool c.ddrInt ++ BitVec.ofBool c.pins.serr ++ BitVec.ofBool c.pins.perr
    ++ c.pins.pciInt ++ c.gpioIn

/-- `Intedge[14:0]` (R941). -/
def Chip.intedge (c : Chip) : BitVec 15 := (c.io 9).extractLsb' 0 15
/-- `Intpol[14:0]` (R941). -/
def Chip.intpol (c : Chip) : BitVec 15 := (c.io 11).extractLsb' 0 15
/-- `Inten[10:0]` (R941). -/
def Chip.inten (c : Chip) : BitVec 11 := (c.io 14).extractLsb' 0 11

/-- `Intisr[14:0]`: the active level of a level-mode source, the record of a pulse-mode one (R940). -/
def Chip.intisr (c : Chip) : BitVec 15 :=
  merge c.intedge (~~~(c.levels ^^^ c.intpol)) c.pulse

/-- The pulse records take the active transitions since the last step (R940). -/
def Chip.sample (c : Chip) : Chip :=
  { c with
    pulse := c.pulse ||| (c.intedge &&& ~~~(c.levels ^^^ c.intpol) &&& (c.prevLevels ^^^ c.intpol))
    prevLevels := c.levels }

/-- The controller's lines to the core, as Cause.IP[6:2]: bit 0 is IP[2] (R940). -/
def Chip.lines (c : Chip) : BitVec 5 :=
  BitVec.ofBool ((c.intisr.extractLsb' 0 11 &&& c.inten) != 0) ++ c.intisr.extractLsb' 11 4

/-- An IO control register that R950 does not assign. -/
def ioReserved (i : Nat) : Bool :=
  i == 3 || i == 10 || (28 ≤ i && i ≤ 31) || i == 35 || i == 38 || i == 39 || 52 ≤ i

/-- A read of an IO control register (R950 and each register's rule); write-only and reserved ones,
and Inten[14:11], read a free value (R941, R942, D29). Comp_Code (R966) gives free codes, fresh ones at
every read, whatever the compensation mode is: they are electrical. DESIGN CHOICE, log 35. -/
def Chip.readIo (c : Chip) (x : MemCtx) (i : Fin 64) : BitVec 32 :=
  let open_ : BitVec 32 := draw 32 .ioOpen x.tick i
  if ioReserved i then open_
  else match i.val with
  | 7 => merge 0x000F0000 (c.io i) ((c.gpioIn.setWidth 32) <<< 16)
  | 12 => open_
  | 13 => open_
  | 14 => merge 0x7800 (c.io i) open_
  | 15 => c.intisr.setWidth 32
  | 36 => open_ &&& 0x7F7F7F
  | _ => c.io i

/-- The writable bits of a plain IO control register (the rule of R950's row). The layout of Mem_Win_Base and
Mem_Win_Mask (registers 16 to 19) is not given; here all their bits are writable and read back: DESIGN CHOICE,
log 35. -/
def ioWriteMask : Nat → BitVec 32
  | 1 => 0x1
  | 2 => 0x7FFC
  | 4 => 0x3FFFF
  | 5 => 0x7F
  | 6 => 0x1FFFF
  | 7 => 0xF
  | 8 => 0xF
  | 9 => 0x780F
  | 11 => 0x780F
  | 16 => 0xFFFFFFFF
  | 17 => 0xFFFFFFFF
  | 18 => 0xFFFFFFFF
  | 19 => 0xFFFFFFFF
  | 20 => 0xFFFFF00E
  | 21 => 0xFFFFFFFF
  | 22 => 0xFFFFF00E
  | 23 => 0xFFFFFFFF
  | 24 => 0xFFFFF00E
  | 25 => 0xFFFFFFFF
  | 26 => 0x00FFFFFF
  | 32 => 0x71F
  | 33 => 0x1FFFF
  | 34 => 0x7FF
  | 40 => 0x7FF
  | 41 => 0x3FFFFF
  | 42 => 0x3FFFFF
  | 43 => 0xFFFFFFFF
  | 44 => 0xFFFFFFFF
  | 45 => 0x0FFFFFFF
  | 46 => 0x1FFFFFFF
  | 47 => 0x1FFFF
  | 48 => 0x1FFF
  | 49 => 0x7FF
  | 50 => 0xFFFFFFFF
  | 51 => 0xFFFFFFFF
  | _ => 0

/-- PXArb_Config written: a change of disable_broken clears PXArb_Status.broken_master (R937). -/
def Chip.writeArb (c : Chip) (m v : BitVec 32) : Chip :=
  let r := merge (m &&& ioWriteMask 26) (c.io 26) v
  let c1 := c.setIo 26 r
  if r.getLsbD 1 != (c.io 26).getLsbD 1 then c1.setIo 27 (c1.io 27 &&& ~~~0xFF) else c1

/-- PXArb_Status after the arbiter reports broken masters and the last one granted (R937); a master once
broken stays so. DEDUCED, log 32. -/
def Chip.arbitrate (c : Chip) (broken : Byte) (last : BitVec 3) : Chip :=
  c.setIo 27 ((last ++ ((c.io 27).extractLsb' 0 8 ||| broken)).setWidth 32)

/-- A write of the bits `m` of `v` to an IO control register: Intenset and Intenclr act on Inten and
the pulse records (R942), PXArb_Config on PXArb_Status (R937), the rest keep their writable bits. -/
def Chip.writeIo (c : Chip) (i : Fin 64) (m v : BitVec 32) : Chip :=
  match i.val with
  | 12 => c.setIo 14 (c.io 14 ||| (v &&& m &&& 0x7FF))
  | 13 => { c.setIo 14 (c.io 14 &&& ~~~(v &&& m &&& 0x7FF)) with
            pulse := c.pulse &&& ~~~((v &&& m).extractLsb' 0 15) }
  | 26 => c.writeArb m v
  | n => c.setIo i (merge (m &&& ioWriteMask n) (c.io i) v)

/-- A PCI header word that R930 and R931 do not assign. -/
def hdrReserved (i : Nat) : Bool :=
  i == 10 || i == 12 || i == 14 || i == 17 || (23 ≤ i && i ≤ 55) || 58 ≤ i

/-- A read of the PCI header; unassigned words read a free value (D29). -/
def Chip.readHdr (c : Chip) (x : MemCtx) (i : Fin 64) : BitVec 32 :=
  if hdrReserved i then draw 32 .ioOpen x.tick (64 + i) else c.pciHdr[i]

/-- The plainly writable bits of a PCI header word (R930, R931). The standard fields: PRESUMED, log 45. No
access kind is given for the PCIX Command word 0xE0, here writable whole, for the PCIX Status word 0xE4, here
read-only, for mas_split_err of ISR54 and for mas_trdy_timeout of ISR58, here plain read/write bits:
DESIGN CHOICE, log 45. -/
def hdrWriteMask : Nat → BitVec 32
  | 1 => 0x0000FFFF
  | 3 => 0x0000FFFF
  | 4 => 0xFFFFFFFF
  | 5 => 0xFFFFFFFF
  | 6 => 0xFFFFFFFF
  | 7 => 0xFFFFFFFF
  | 8 => 0xFFFFFFFF
  | 9 => 0xFFFFFFFF
  | 15 => 0x000000FF
  | 16 => 0x39FFFFFB
  | 19 => 0x3F000000
  | 21 => 0xFFFFFFFF
  | 22 => 0x3E01FFFF
  | 56 => 0xFFFFFFFF
  | _ => 0

/-- The write-1-to-clear bits of a PCI header word (R930, R931). -/
def hdrClearMask : Nat → BitVec 32
  | 1 => 0xF9000000
  | 16 => 0xC0000000
  | 18 => 0xFFFFFFFF
  | 19 => 0x00003800
  | 20 => 0xFFFFFFFF
  | 22 => 0x00020000
  | _ => 0

/-- The outside reports PCI traffic in the status bits of a header word (R930, R931): its write-1-to-clear
bits gather, err_seq_id, err_type and err_module are those of the last report. DESIGN CHOICE, log 45. -/
def Chip.reportPci (i : Fin 64) (bits : BitVec 32) (c : Chip) : Chip :=
  let r := merge (if i == 19 then 0x00FFC000 else 0) (c.pciHdr[i] ||| (bits &&& hdrClearMask i)) bits
  { c with pciHdr := c.pciHdr.set i r }

/-- A write of the bits `m` of `v` to the PCI header. -/
def Chip.writeHdr (c : Chip) (i : Fin 64) (m v : BitVec 32) : Chip :=
  let r := merge (m &&& hdrWriteMask i) c.pciHdr[i] v &&& ~~~(v &&& m &&& hdrClearMask i)
  { c with pciHdr := c.pciHdr.set i r }

/-- The plainly writable bits of the DDR2 configuration registers (R924). `int_ack`, CONF_CTL_16[25:16], is
none of them: R924 says what writing a 1 does and not what the field reads as, and here it keeps nothing and
reads 0. `int_status`, CONF_CTL_16[58:48], is none either: R924 gives it no access kind, and here a store
changes it through `int_ack` only. DESIGN CHOICE, log 33. -/
def ddrWriteMasks : Vector Word 29 := #v[
  0x0101010100010101, 0x0001010101010100, 0x0101010101010101, 0x0101010101010101,
  0x0303030300010101, 0x0700000007070703, 0x0F07070707070707, 0x00000F00000F0F0F,
  0x0F0F0F0F0F0F0F0F, 0x1F1F0F0F00000000, 0x7F7F7F3F3F1F1F1F, 0x7F7F7F7F7F7F7F7F,
  0x01FFFFFFFF000000, 0x01FF01FF01FF01FF, 0x01FF01FF01FF01FF, 0x01FF01FF000001FF,
  0x000007FF000001FF, 0x7FFF7FFF7FFF3FFF, 0xFFFF7FFF7FFF7FFF, 0xFFFFFFFFFFFFFFFF,
  0xFFFF0000FFFFFFFF, 0x0000000000FFFFFF, 0, 0, 0, 0, 0, 0x7, 0x1]

/-- The write-only bits of a DDR2 configuration register: AREFRESH, FWC, WRITE_MODEREG (R924). -/
def ddrWriteOnly : Nat → Word
  | 0 => 0x0000000001000000
  | 1 => 0x0100000000000000
  | 4 => 0x0000000001000000
  | _ => 0

/-- A read of CONF_CTL_n: DLLLOCKREG is `ddr_ready` (R922), int_status with its bits 9 and 10 (R926),
write-only bits a free value. -/
def Chip.readDdr (c : Chip) (x : MemCtx) (n : Fin 29) : Word :=
  let v := merge (ddrWriteOnly n) c.ddrRegs[n] (draw 64 .ddrRegOpen x.tick n)
  match n.val with
  | 1 => setBit v 0 c.ddrReady
  | 16 => merge 0x07FF000000000000 v ((c.ddrIntStatus.setWidth 64) <<< 48)
  | _ => v

/-- `int_status` bit 9, DLL not locked, set or cleared (R926). -/
def Chip.setUnlocked (b : Bool) (c : Chip) : Chip :=
  { c with ddrRegs := c.ddrRegs.set 16 (setBit c.ddrRegs[16] 57 b) }

/-- The first START: the initialisation begins (R922), and `int_status` bit 9 is recorded until the lock or
an `int_ack` (R924, R926). DESIGN CHOICE, log 33. -/
def Chip.startDdr (c : Chip) : Chip :=
  if c.ddrStarted then c else { c.setUnlocked true with ddrStarted := true }

/-- A 64-bit write of CONF_CTL_n (R924): START begins the initialisation (R922), `int_ack` clears the bits
of `int_status` it names, bit 9 too (R926). START = 1 begins it also where the writes of R922's step 3 did
not come before, and START = 0 before the lock does not end it. DESIGN CHOICE, log 33. -/
def Chip.writeDdr (c : Chip) (n : Fin 29) (v : Word) : Chip :=
  let r := merge ddrWriteMasks[n] c.ddrRegs[n] v
  match n.val with
  | 3 =>
    let c1 := { c with ddrRegs := c.ddrRegs.set n r }
    if v.getLsbD 40 then c1.startDdr else c1
  | 16 => { c with ddrRegs := c.ddrRegs.set n (r &&& ~~~((v.extractLsb' 16 10).setWidth 64 <<< 48)) }
  | _ => { c with ddrRegs := c.ddrRegs.set n r }

/-- The read-only error fields of CONF_CTL_n that reported conditions fill (R924): bits 0 and 1 the
out-of-range fields, bits 2 and 3 ECC_C, and bits 4 to 8, whose names are lost, ECC_U and PORT.
DEDUCED, log 33. -/
def ddrErrorMask (bits : BitVec 9) (n : Nat) : Word :=
  let range (m : Word) : Word := if bits &&& 0x003 != 0 then m else 0
  let single (m : Word) : Word := if bits &&& 0x00C != 0 then m else 0
  let other (m : Word) : Word := if bits &&& 0x1F0 != 0 then m else 0
  match n with
  | 5 => range 0x0000070000000000 ||| other 0x0007000000000000
  | 7 => single 0x000000000F000000 ||| other 0x0000000F00000000
  | 9 => range 0x000000000000000F ||| other 0x000000000F0F0F00
  | 12 => range 0x0000000000FF0000 ||| single 0x00000000000000FF ||| other 0x000000000000FF00
  | 21 => single 0x1FFFFFFFFF000000
  | 22 => other 0x0000001FFFFFFFFF
  | 23 => range 0x0000001FFFFFFFFF
  | 24 => other 0x0000001FFFFFFFFF
  | 25 => single 0xFFFFFFFFFFFFFFFF
  | 26 => other 0xFFFFFFFFFFFFFFFF
  | _ => 0

/-- Conditions the DDR2 controller reports are set in `int_status`, and their error fields take free
values (R924, R926). -/
def Chip.raiseDdr (x : MemCtx) (bits : BitVec 9) (c : Chip) : Chip :=
  let regs := Vector.ofFn fun n : Fin 29 =>
    merge (ddrErrorMask bits n) c.ddrRegs[n] (draw 64 .ddrError x.tick n)
  { c with ddrRegs := regs.set 16 (regs[16] ||| (bits.setWidth 64 <<< 48)) }

/-- An access beyond the memory: int_status bit 0, or bit 1 when bit 0 stands, with the address and length
of this access and a free type and source (R924, R926). -/
def Chip.ddrOutOfRange (x : MemCtx) (a n : Nat) (c : Chip) : Chip :=
  let c1 := c.raiseDdr x (if c.ddrRegs[16].getLsbD 48 then 2 else 1)
  let r12 := merge 0x00FF0000 c1.ddrRegs[12] (BitVec.ofNat 64 n <<< 16)
  let r23 := (BitVec.ofNat 37 a).setWidth 64
  { c1 with ddrRegs := (c1.ddrRegs.set 12 r12).set 23 r23 }

end Sys2Proof.Machine
end

