-- ==== Sys2Proof/Machine/Bus.lean ====
section
/-! DEFINITION. The crossbar and what answers behind it: address windows (61_platform.md R910 to R918),
DDR2, ROM, registers, and the devices whose data are free values. -/

namespace Sys2Proof.Machine

/-- The outcome of a memory-system operation: a value, an exception to take, or a stop. -/
inductive MemRes (α : Type) where
  | ok (a : α) (m : MemSys)
  | exc (e : Exc) (m : MemSys)
  | fault (f : Fault)
deriving Repr

/-- Sequence two memory-system operations. -/
def MemRes.bind {α β : Type} (r : MemRes α) (k : α → MemSys → MemRes β) : MemRes β :=
  match r with
  | .ok a m => k a m
  | .exc e m => .exc e m
  | .fault f => .fault f

/-- Where the crossbar sends an access (R910). -/
inductive Target where
  /-- An address-window register, by byte offset in the block. -/
  | winReg (off : Nat)
  /-- A DDR2 configuration register, by byte offset in the block. -/
  | ddrReg (off : Nat)
  /-- DDR2, by DDR2 address. -/
  | ddr (a : Nat)
  /-- The IO controller, by its address. -/
  | io (a : Nat)
  /-- No window (R915). -/
  | miss
deriving DecidableEq, Repr

/-- Does window `i` of the master whose registers begin at `base` match (R913)? -/
def windowHit (c : Chip) (base i : Nat) (a : Word) : Bool :=
  (a &&& c.winRegs[base + 4 + i]!) == c.winRegs[base + i]!

/-- The translated address of window `i` (R913). -/
def windowOut (c : Chip) (base i : Nat) (a : Word) : Word :=
  (a &&& ~~~c.winRegs[base + 4 + i]!) ||| (c.winRegs[base + 8 + i]! &&& ~~~(0xFFFFF : Word))

/-- The route of window `i` (R913). -/
def windowRoute (c : Chip) (base i : Nat) : BitVec 2 := (c.winRegs[base + 8 + i]!).extractLsb' 0 2

/-- The four windows of a master, `base` 0 for the core and 12 for PCI-DMA (R911, R913, R914, R915). -/
def throughWindows (c : Chip) (base : Nat) (a : Word) : Except Fault Target :=
  match [0, 1, 2, 3].filter (fun i => windowHit c base i a) with
  | [] => .ok .miss
  | [i] =>
    match (windowRoute c base i).toNat with
    | 0 => .ok (.ddr (windowOut c base i a).toNat)
    | 1 => .ok (.io (windowOut c base i a).toNat)
    | _ => .error .windowRoute
  | _ => .error .windowOverlap

/-- Where a request of the core goes: the two register blocks stand in front of the windows (R910, D34). -/
def route (c : Chip) (pa : Nat) : Except Fault Target :=
  if 0x3FF00000 ≤ pa && pa ≤ 0x3FF000BF then .ok (.winReg (pa - 0x3FF00000))
  else if 0x0FFFFE00 ≤ pa && pa ≤ 0x0FFFFFCF && !c.disableDdrConf then .ok (.ddrReg (pa - 0x0FFFFE00))
  else throughWindows c 0 (BitVec.ofNat 64 pa)

/-- The spaces of Table 11-1 (R910). -/
inductive IoSpace where
  | none
  | pciLo (k : Nat)
  | video
  | rom
  | lioIo
  | pciIo
  | pciHeader
  | ioRegs
  | pciConf
  | gap
  | pciHi
deriving DecidableEq, Repr

/-- The row of Table 11-1 an IO-controller address falls in (R910); the video rows exist while `ov_en` is 1.
The table ends at 2^40: an address above it, which only the high bits of a MMAP register can make, is given
the row that allows no access. DESIGN CHOICE, log 32. -/
def ioSpace (c : Chip) (a : Nat) : IoSpace :=
  if a < 0x10000000 then .none
  else if a < 0x14000000 then
    if 0x13F00000 ≤ a && c.ovEn then .video else .pciLo 0
  else if a < 0x18000000 then .pciLo 1
  else if a < 0x1C000000 then .pciLo 2
  else if a < 0x1E000000 then .rom
  else if a < 0x1FC00000 then .lioIo
  else if a < 0x1FD00000 then .rom
  else if a < 0x1FE00000 then .pciIo
  else if a < 0x1FE00100 then .pciHeader
  else if a < 0x1FE00200 then .ioRegs
  else if a < 0x1FE80000 then .gap
  else if a < 0x1FE80800 then .pciConf
  else if a < 0x1FF00000 then .gap
  else if a < 0x20000000 then .lioIo
  else if a < 0x10000000000 then .pciHi
  else .none

/-- The spaces of Table 11-1 that take words, halfwords and bytes only (R910). Of the two register spaces U46
says that a wider access does nothing defined; of PCI IO and PCI CONF the table only does not list it, and it
stops there too. DESIGN CHOICE, log 34. -/
def ioNarrow : IoSpace → Bool
  | .pciIo => true
  | .pciHeader => true
  | .ioRegs => true
  | .pciConf => true
  | _ => false

/-- An access that lies inside one word. A partial access of three bytes (40_load_store.md R411), of which
Table 11-1 says nothing, is one: DESIGN CHOICE, log 34. -/
def inWord (a n : Nat) : Bool := a % 4 + n ≤ 4

/-- The PCI address of a CPU access to PCI memory (R935). -/
def pciAddr (c : Chip) (a : Nat) : IoSpace → Nat
  | .pciLo k => ((c.io 4).extractLsb' (6 * k) 6).toNat * 2 ^ 26 + a % 2 ^ 26
  | _ => a

/-- The address of a configuration cycle: type and AD[31:16] from PCIMap_Cfg, the rest the offset (R934). -/
def confAddr (c : Chip) (a : Nat) : Nat := (c.io 6).toNat * 2 ^ 16 + a % 2 ^ 11

/-- The device an IO access reaches, and the address there. -/
def deviceOf (c : Chip) (a : Nat) (sp : IoSpace) : BusSpace × Nat :=
  match sp with
  | .pciIo => (.pciIo, a - 0x1FD00000)
  | .pciConf => (.pciConf, confAddr c a)
  | .lioIo => (.lioIo, a)
  | .rom => (.rom, a)
  | .video => (.video, a)
  | _ => (.pciMem, pciAddr c a sp)

/-- An event of the boundary, recorded. -/
def logBus (m : MemSys) (e : BusEvent) : MemSys := { m with busLog := e :: m.busLog }

/-- A device answers a read of `n` bytes with a free value (R978); the event is recorded. -/
def deviceRead (x : MemCtx) (sp : BusSpace) (a n : Nat) (m : MemSys) : MemRes (BitVec 256) :=
  let v := draw 256 .deviceRead x.tick m.busLog.length &&& byteMask 256 0 n
  .ok v (logBus m { space := sp, write := false, addr := a, size := n, data := v })

/-- A read the device answers with an error (20_memory.md R310): the bus error of a load or a fetch. A
store never raises one; the line it fills takes free bytes. DESIGN CHOICE, log 47. -/
def errorRead (x : MemCtx) (acc : Access) (n : Nat) (m : MemSys) : MemRes (BitVec 256) :=
  match acc with
  | .load => .exc (.busError false) m
  | .fetch => .exc (.busError true) m
  | .store => .ok (draw 256 .deviceRead x.tick m.busLog.length &&& byteMask 256 0 n) m

/-- A read that is refused or given up reaches no device; whether it ends with an error or with free bytes
is a free value. DESIGN CHOICE, log 34. -/
def refusedRead (x : MemCtx) (acc : Access) (n : Nat) (m : MemSys) : MemRes (BitVec 256) :=
  if (draw 1 .refusedRead x.tick m.busLog.length).getLsbD 0 then errorRead x acc n m
  else .ok (draw 256 .deviceRead x.tick m.busLog.length &&& byteMask 256 0 n) m

/-- A device answers a read with data, or with the error that `BUS_ERROR` says (60_exceptions.md R865). -/
def answeredRead (x : MemCtx) (acc : Access) (err : Bool) (sp : BusSpace) (a n : Nat) (m : MemSys) :
    MemRes (BitVec 256) :=
  if err then errorRead x acc n m else deviceRead x sp a n m

/-- A PCI read (20_memory.md R310, 70_reset_and_hazards.md R1016): a free value says whether the target
retries it; with mas_retry_value = 0 that never ends and else it is given up (R931). -/
def pciRead (x : MemCtx) (acc : Access) (err : Bool) (sp : BusSpace) (a n : Nat) (m : MemSys) :
    MemRes (BitVec 256) :=
  if (draw 1 .deviceReply x.tick m.busLog.length).getLsbD 0 then
    if m.chip.masRetryValue = 0 then .fault .pciRetryForever
    else refusedRead x acc n { m with chip := { m.chip with
      pciHdr := m.chip.pciHdr.set 22 (setBit m.chip.pciHdr[22] 17 true) } }
  else answeredRead x acc err sp a n m

/-- A read of PCI memory: a free value says whether Mem_Win_Base and Mem_Win_Mask, whose layout is not
given, accept a block read (R935). DESIGN CHOICE, log 34. -/
def pciMemRead (x : MemCtx) (acc : Access) (err : Bool) (a n : Nat) (m : MemSys) : MemRes (BitVec 256) :=
  if n = 32 && (draw 1 .memWindow x.tick a).getLsbD 0 then refusedRead x acc n m
  else pciRead x acc err .pciMem a n m

/-- A read of Local IO: a block read is refused while `iopf_en` is 0 (R910 note 3, R938). -/
def lioRead (x : MemCtx) (acc : Access) (err : Bool) (a n : Nat) (m : MemSys) : MemRes (BitVec 256) :=
  if n = 32 && !m.chip.iopfEn then refusedRead x acc n m else answeredRead x acc err .lioIo a n m

/-- A read at the IO controller (R910): ROM, registers, and devices; `err` is `BUS_ERROR` of the access. -/
def ioRead (x : MemCtx) (acc : Access) (err : Bool) (a n : Nat) (m : MemSys) : MemRes (BitVec 256) :=
  let sp := ioSpace m.chip a
  let d := deviceOf m.chip a sp
  if ioNarrow sp && !inWord a n then .fault .ioAccessWidth
  else match sp with
  | .none => .fault .ioNoSuchSpace
  | .rom => .ok (readBytes m.rom a n) m
  | .gap => .ok (draw 256 .ioOpen x.tick (128 + a) &&& byteMask 256 0 n) m
  | .video => .ok (draw 256 .ioOpen x.tick (128 + a) &&& byteMask 256 0 n) m
  | .pciHeader => .ok (getBytes (m.chip.readHdr x (Fin.ofNat 64 (a / 4))) (a % 4) n) m
  | .ioRegs => .ok (getBytes (m.chip.readIo x (Fin.ofNat 64 (a / 4))) (a % 4) n) m
  | .lioIo => lioRead x acc err d.2 n m
  | .pciIo => pciRead x acc err d.1 d.2 n m
  | .pciConf => pciRead x acc err d.1 d.2 n m
  | .pciLo _ => pciMemRead x acc err d.2 n m
  | .pciHi => pciMemRead x acc err d.2 n m

/-- A write at the IO controller (R910): registers change, devices and ROMs are told, gaps drop it. -/
def ioWrite (a n : Nat) (v : BitVec 256) (m : MemSys) : MemRes Unit :=
  let sp := ioSpace m.chip a
  let d := deviceOf m.chip a sp
  let w : BitVec 32 := v.setWidth 32 <<< (8 * (a % 4))
  let mask : BitVec 32 := byteMask 32 (a % 4) n
  if ioNarrow sp && !inWord a n then .fault .ioAccessWidth
  else match sp with
  | .none => .fault .ioNoSuchSpace
  | .gap => .ok () m
  | .pciHeader => .ok () { m with chip := m.chip.writeHdr (Fin.ofNat 64 (a / 4)) mask w }
  | .ioRegs => .ok () { m with chip := m.chip.writeIo (Fin.ofNat 64 (a / 4)) mask w }
  | _ => .ok () (logBus m { space := d.1, write := true, addr := d.2, size := n,
                            data := v &&& byteMask 256 0 n })

/-- A DDR2 read (R920): before the DLL locks a free value (R922, U45). One that goes beyond DDR_SIZE, with
its first byte or only with a later one, is reported (R926); what it reads is not stated, and all of it is a
free value: DESIGN CHOICE, log 33. -/
def ddrRead (x : MemCtx) (a n : Nat) (m : MemSys) : MemRes (BitVec 256) :=
  let open_ := draw 256 .ddrOpen x.tick a &&& byteMask 256 0 n
  if !m.chip.ddrReady then .ok open_ m
  else if a + n ≤ x.params.ddrSize then .ok (readBytes m.ddr a n) m
  else .ok open_ { m with chip := m.chip.ddrOutOfRange x a n }

/-- A DDR2 write (R920): lost before the DLL locks (R922, U45). One that goes beyond DDR_SIZE, with its first
byte or only with a later one, is reported (R926); what becomes of its bytes is not stated, and here all of
them are lost, those below DDR_SIZE too: DESIGN CHOICE, log 33. -/
def ddrWrite (x : MemCtx) (a n : Nat) (v : BitVec 256) (m : MemSys) : MemSys :=
  if !m.chip.ddrReady then m
  else if a + n ≤ x.params.ddrSize then { m with ddr := writeBytes m.ddr a v n }
  else { m with chip := m.chip.ddrOutOfRange x a n }

/-- A read of the window registers (R912): the bytes asked for of the registers touched. -/
def winRead (c : Chip) (off n : Nat) : BitVec 256 :=
  getBytes (c.winRegs[off / 8 + 3]! ++ c.winRegs[off / 8 + 2]! ++ c.winRegs[off / 8 + 1]!
    ++ c.winRegs[off / 8]! : BitVec 256) (off % 8) n

/-- The DDR2 configuration register of slot `n`; a line read of the last register goes on into a slot
beyond the block, whose bytes are a free value (R923). DESIGN CHOICE, log 32. -/
def ddrSlot (c : Chip) (x : MemCtx) (n : Nat) : BitVec 128 :=
  if h : n < 29 then (0 : Word) ++ c.readDdr x ⟨n, h⟩ else draw 128 .ddrRegOpen x.tick n

/-- A read of the DDR2 configuration registers (R923), a block read too: the upper 8 bytes of each slot
read 0. DESIGN CHOICE, log 32. -/
def ddrRegRead (c : Chip) (x : MemCtx) (off n : Nat) : BitVec 256 :=
  getBytes (ddrSlot c x (off / 16 + 1) ++ ddrSlot c x (off / 16) : BitVec 256) (off % 16) n

/-- One read of `n` bytes by the core at a physical address (R910, R915). -/
def busRead (x : MemCtx) (acc : Access) (pa : PAddr) (n : Nat) (m : MemSys) : MemRes (BitVec 256) :=
  match route m.chip pa.toNat with
  | .error f => .fault f
  | .ok (.winReg off) => .ok (winRead m.chip off n) m
  | .ok (.ddrReg off) => .ok (ddrRegRead m.chip x off n) m
  | .ok (.ddr a) => ddrRead x a n m
  | .ok (.io a) => ioRead x acc (x.params.busErrorAt pa.toNat n) a n m
  | .ok .miss => .ok 0 m

/-- One write of `n` bytes by the core at a physical address (R910, R912, R915, R923). A register of the two
blocks takes doubleword stores only, so a block write of 32 bytes stops there as a narrower store does:
DEDUCED, log 32. A window register governs the very next fetch or access after its write, where
70_reset_and_hazards.md R1011 leaves the time open: DESIGN CHOICE, log 32. -/
def busWrite (x : MemCtx) (pa : PAddr) (n : Nat) (v : BitVec 256) (m : MemSys) : MemRes Unit :=
  match route m.chip pa.toNat with
  | .error f => .fault f
  | .ok (.winReg off) =>
    if n = 8 && off % 8 = 0 then
      .ok () { m with chip := { m.chip with
        winRegs := m.chip.winRegs.set! (off / 8) (v.setWidth 64) } }
    else .fault .windowRegWidth
  | .ok (.ddrReg off) =>
    if n = 8 && off % 16 = 0 then
      .ok () { m with chip := m.chip.writeDdr (Fin.ofNat 29 (off / 16)) (v.setWidth 64) }
    else if n = 8 && off % 16 = 8 then .ok () m
    else .fault .ddrRegWidth
  | .ok (.ddr a) => .ok () (ddrWrite x a n v m)
  | .ok (.io a) => ioWrite a n v m
  | .ok .miss => .ok () m

end Sys2Proof.Machine
end

