-- ==== Sys2Proof/Machine/Cache.lean ====
section
/-! DEFINITION. The three caches and the gather buffer (10_state.md R129 to R134, 20_memory.md R290 to
R298), and what a CACHE operation does to them (46_cp0_privileged.md R683 to R695). -/

namespace Sys2Proof.Machine

/-- The four ways of a set. -/
def ways : List Nat := [0, 1, 2, 3]

/-- The set a virtual address indexes in the level-1 caches: VA[13:5] (R129, R130). -/
def l1Set (va : Word) : Nat := (va.extractLsb' 5 9).toNat
/-- The set a physical address indexes in the level-2 cache: PA[16:5] (R131). -/
def l2Set (pa : PAddr) : Nat := (pa.extractLsb' 5 12).toNat
/-- The level-1 tag, PA[39:12] (R129, R130). -/
def l1Tag (pa : PAddr) : BitVec 28 := pa.extractLsb' 12 28
/-- The level-2 tag, PA[39:17] (R131). -/
def l2Tag (pa : PAddr) : BitVec 23 := pa.extractLsb' 17 23
/-- The address of the line that holds `pa`. -/
def lineOf (pa : PAddr) : PAddr := pa.extractLsb' 5 35 ++ (0 : BitVec 5)
/-- The byte offset of `pa` in its line. -/
def lineOff (pa : PAddr) : Nat := (pa.extractLsb' 0 5).toNat
/-- The physical address of a level-1 line from its tag and set: PA[11:5] are index bits (R293). -/
def l1Addr (tag : BitVec 28) (set : Nat) : PAddr := tag ++ BitVec.ofNat 7 set ++ (0 : BitVec 5)
/-- The physical address of a level-2 line from its tag and set. -/
def l2Addr (tag : BitVec 23) (set : Nat) : PAddr := tag ++ BitVec.ofNat 12 set ++ (0 : BitVec 5)

/-- An instruction-cache line; one that nothing has written since reset holds free values (R132). -/
def iGet (m : MemSys) (set way : Nat) : ILine :=
  let k := set * 4 + way
  (mapGet k m.icache).getD
    { v := (Config.draw .resetI 0 (2 * k)).getLsbD 0
      tag := (Config.draw .resetI 0 (2 * k)).extractLsb' 1 28
      data := Config.draw .resetI 0 (2 * k + 1) }

/-- A data-cache line; one that nothing has written since reset holds free values (R132). -/
def dGet (m : MemSys) (set way : Nat) : DLine :=
  let k := set * 4 + way
  (mapGet k m.dcache).getD
    { w := (Config.draw .resetD 0 (2 * k)).getLsbD 0
      cs := (Config.draw .resetD 0 (2 * k)).extractLsb' 1 2
      tag := (Config.draw .resetD 0 (2 * k)).extractLsb' 3 28
      way := (Config.draw .resetD 0 (2 * k)).extractLsb' 31 2
      data := Config.draw .resetD 0 (2 * k + 1) }

/-- A level-2 line; one that nothing has written since reset holds free values (R132). -/
def sGet (m : MemSys) (set way : Nat) : SLine :=
  let k := set * 4 + way
  (mapGet k m.scache).getD
    { st := (Config.draw .resetS 0 (2 * k)).extractLsb' 0 2
      tag := (Config.draw .resetS 0 (2 * k)).extractLsb' 2 23
      data := Config.draw .resetS 0 (2 * k + 1) }

/-- An instruction-cache line written. -/
def iSet (m : MemSys) (set way : Nat) (l : ILine) : MemSys :=
  { m with icache := mapPut (set * 4 + way) l m.icache }
/-- A data-cache line written. -/
def dSet (m : MemSys) (set way : Nat) (l : DLine) : MemSys :=
  { m with dcache := mapPut (set * 4 + way) l m.dcache }
/-- A level-2 line written. -/
def sSet (m : MemSys) (set way : Nat) (l : SLine) : MemSys :=
  { m with scache := mapPut (set * 4 + way) l m.scache }

/-- The ranges `l` without the number `k`. -/
def rangesWithout (k : Nat) : List (Nat × Nat) → List (Nat × Nat)
  | [] => []
  | (a, b) :: r =>
    if a ≤ k && k < b then
      (if a < k then [(a, k)] else []) ++ (if k + 1 < b then [(k + 1, b)] else []) ++ r
    else (a, b) :: rangesWithout k r

/-- All three caches have been initialised since reset: every instruction-cache line by Index Invalidate,
every data-cache and level-2 line by Index Store Tag of the state 00 (R299, 70_reset_and_hazards.md R1000,
U7). -/
def cachesReady (m : MemSys) : Bool := m.coldI.isEmpty && m.coldD.isEmpty && m.coldS.isEmpty

/-- An instruction-cache line is initialised. -/
def warmI (m : MemSys) (set way : Nat) : MemSys := { m with coldI := rangesWithout (set * 4 + way) m.coldI }
/-- A data-cache line is initialised. -/
def warmD (m : MemSys) (set way : Nat) : MemSys := { m with coldD := rangesWithout (set * 4 + way) m.coldD }
/-- A level-2 line is initialised. -/
def warmS (m : MemSys) (set way : Nat) : MemSys := { m with coldS := rangesWithout (set * 4 + way) m.coldS }

/-- The way of an instruction-cache set that holds the physical line (R129); of several, which no fill
makes, the lowest-numbered. DESIGN CHOICE, log 20. -/
def iHit (m : MemSys) (set : Nat) (pa : PAddr) : Option Nat :=
  ways.find? fun w => (iGet m set w).v && (iGet m set w).tag == l1Tag pa
/-- The way of a data-cache set that holds the physical line (R130); of several, which only Index Store Tag
can make, the lowest-numbered. DESIGN CHOICE, log 20. -/
def dHit (m : MemSys) (set : Nat) (pa : PAddr) : Option Nat :=
  ways.find? fun w => (dGet m set w).cs != 0 && (dGet m set w).tag == l1Tag pa
/-- The way of the level-2 cache that holds the physical line (R131); of several, which only Index Store
Tag can make, the lowest-numbered. DESIGN CHOICE, log 20. -/
def sHit (m : MemSys) (pa : PAddr) : Option Nat :=
  ways.find? fun w => (sGet m (l2Set pa) w).st != 0 && (sGet m (l2Set pa) w).tag == l2Tag pa

/-- The level-1 places that can hold a physical line: VA[13:12] is free, so four sets, four ways each (R294). -/
def l1Places (pa : PAddr) : List (Nat × Nat) :=
  ways.flatMap fun c => ways.map fun w => (c * 128 + (pa.extractLsb' 5 7).toNat, w)

/-- The instruction-cache line at a place, invalidated if it is a copy of the physical line (R689 step 2). -/
def dropICopy (pa : PAddr) (m : MemSys) (p : Nat × Nat) : MemSys :=
  let l := iGet m p.1 p.2
  if l.v && l.tag == l1Tag pa then iSet m p.1 p.2 { l with v := false } else m

/-- Instruction-cache copies of the line are invalidated (R689 step 2). -/
def dropICopies (pa : PAddr) (m : MemSys) : MemSys := (l1Places pa).foldl (dropICopy pa) m

/-- The data-cache line at a place, invalidated if it is a copy of the physical line; with `wb` a dirty one
first goes into the level-2 line (R689 step 3, R691 step 3). -/
def dropDCopy (wb : Bool) (pa : PAddr) (r : SLine × MemSys) (p : Nat × Nat) : SLine × MemSys :=
  let l := dGet r.2 p.1 p.2
  if l.cs != 0 && l.tag == l1Tag pa then
    if wb && l.cs == 3 then
      ({ r.1 with st := 3, data := l.data }, dSet r.2 p.1 p.2 { l with cs := 0, w := true })
    else (r.1, dSet r.2 p.1 p.2 { l with cs := 0 })
  else r

/-- Data-cache copies of the line are invalidated, dirty ones with `wb` first written into the level-2 line
(R689 step 3, R691 step 3). Sets and ways go in ascending order, so of two dirty aliases (R294) the bytes
of the last one stay. DESIGN CHOICE, log 19. -/
def dropDCopies (wb : Bool) (pa : PAddr) (s : SLine) (m : MemSys) : SLine × MemSys :=
  (l1Places pa).foldl (dropDCopy wb pa) (s, m)

/-- Index WriteBack Invalidate of a level-2 line, and its replacement (R689, R293). -/
def evictS (x : MemCtx) (set way : Nat) (m : MemSys) : MemRes Unit :=
  let l := sGet m set way
  if l.st = 0 then .ok () m
  else
    let pa := l2Addr l.tag set
    let r := dropDCopies true pa l (dropICopies pa m)
    let m1 := sSet r.2 set way { r.1 with st := 0 }
    if r.1.st = 3 then busWrite x pa 32 r.1.data m1 else .ok () m1

/-- A dirty data-cache line goes into the level-2 line its SCWay names, which becomes Dirty (R688); while
the level-2 cache is disabled (61_platform.md R965) into that line and memory: DESIGN CHOICE, log 40. Where
software broke inclusion by Index Store Tag and that line has another tag or the state 00, it takes the bytes
and the state Dirty all the same and keeps its tag: DESIGN CHOICE, log 20. -/
def writeBackD (x : MemCtx) (set : Nat) (l : DLine) (m : MemSys) : MemRes Unit :=
  let pa := l1Addr l.tag set
  let s := sGet m (l2Set pa) l.way.toNat
  if m.chip.disableScache then
    busWrite x pa 32 l.data (sSet m (l2Set pa) l.way.toNat { s with data := l.data })
  else .ok () (sSet m (l2Set pa) l.way.toNat { s with st := 3, data := l.data })

/-- Index WriteBack Invalidate of a data-cache line, and its replacement (R688). -/
def evictD (x : MemCtx) (set way : Nat) (m : MemSys) : MemRes Unit :=
  let l := dGet m set way
  if l.cs = 3 then
    (writeBackD x set l m).bind fun _ m1 => .ok () (dSet m1 set way { l with cs := 0, w := true })
  else .ok () (dSet m set way { l with cs := 0 })

/-- The line of `pa` read from memory into a level-2 way a free value names (R292). -/
def fillS (x : MemCtx) (acc : Access) (pa : PAddr) (m : MemSys) : MemRes Nat :=
  (busRead x acc (lineOf pa) 32 m).bind fun d m1 =>
    let w := (draw 2 .victimS x.tick (l2Set pa)).toNat
    (evictS x (l2Set pa) w m1).bind fun _ m2 =>
      .ok w (sSet m2 (l2Set pa) w
        { st := if (draw 1 .fillS x.tick (l2Set pa)).getLsbD 0 then 1 else 2, tag := l2Tag pa, data := d })

/-- A clean level-2 line read from memory again; a dirty one stays (61_platform.md R965). -/
def refreshS (x : MemCtx) (acc : Access) (pa : PAddr) (w : Nat) (m : MemSys) : MemRes Nat :=
  if (sGet m (l2Set pa) w).st = 3 then .ok w m
  else (busRead x acc (lineOf pa) 32 m).bind fun d m1 =>
    .ok w (sSet m1 (l2Set pa) w { sGet m1 (l2Set pa) w with data := d })

/-- The level-2 way that holds the line of `pa`, filled from memory on a miss (R292). While the level-2
cache is disabled it still holds every level-1 line (R293, 46_cp0_privileged.md R696), but gives no clean
bytes of its own. DESIGN CHOICE, log 40. -/
def ensureS (x : MemCtx) (acc : Access) (pa : PAddr) (m : MemSys) : MemRes Nat :=
  match sHit m pa with
  | some w => if m.chip.disableScache then refreshS x acc pa w m else .ok w m
  | none => fillS x acc pa m

/-- The bytes of a line for a level-1 fill, with the level-2 way that holds it (R292). -/
def sourceLine (x : MemCtx) (acc : Access) (pa : PAddr) (m : MemSys) : MemRes (BitVec 256 × BitVec 2) :=
  (ensureS x acc pa m).bind fun w m1 => .ok ((sGet m1 (l2Set pa) w).data, BitVec.ofNat 2 w) m1

/-- The data-cache way that holds the line, filled on a miss (R292). -/
def ensureD (x : MemCtx) (acc : Access) (va : Word) (pa : PAddr) (m : MemSys) : MemRes Nat :=
  let set := l1Set va
  if !cachesReady m then .fault .cacheUninitialised
  else match dHit m set pa with
  | some w => .ok w m
  | none =>
    (sourceLine x acc pa m).bind fun d m1 =>
      let w := (draw 2 .victimD x.tick set).toNat
      (evictD x set w m1).bind fun _ m2 =>
        let f := draw 2 .fillD x.tick 0
        .ok w (dSet m2 set w
          { w := f.getLsbD 1, cs := if f.getLsbD 0 then 1 else 2, tag := l1Tag pa, way := d.2, data := d.1 })

/-- The instruction-cache way that holds the line, filled on a miss (R287, R296). -/
def ensureI (x : MemCtx) (va : Word) (pa : PAddr) (m : MemSys) : MemRes Nat :=
  let set := l1Set va
  if !cachesReady m then .fault .cacheUninitialised
  else match iHit m set pa with
  | some w => .ok w m
  | none =>
    (sourceLine x .fetch pa m).bind fun d m1 =>
      let w := (draw 2 .victimI x.tick set).toNat
      .ok w (iSet m1 set w { v := true, tag := l1Tag pa, data := d.1 })

/-- The held bytes of the gather buffer from byte `i` on, written one by one (R297). -/
def drainBytes (x : MemCtx) (g : GatherBuf) : Nat → MemSys → MemRes Unit
  | 0, m => .ok () m
  | k + 1, m =>
    let i := 31 - k
    if g.held.getLsbD i then
      (busWrite x (g.line ++ BitVec.ofNat 5 i) 1 (getBytes g.data i 1) m).bind fun _ m1 =>
        drainBytes x g k m1
    else drainBytes x g k m

/-- The gather buffer goes out: one block when full, else byte by byte (R297). -/
def drainGather (x : MemCtx) (m : MemSys) : MemRes Unit :=
  match m.gather with
  | none => .ok () m
  | some g =>
    if g.held = 0xFFFFFFFF then busWrite x (g.line ++ (0 : BitVec 5)) 32 g.data { m with gather := none }
    else drainBytes x g 32 { m with gather := none }

/-- An uncached-accelerated store: gathered with stores to the same line, sent when full (R297). Every
attribute-7 store to the line counts as of the same kind, whatever its width, its order and the bytes
already held. DESIGN CHOICE, log 21. -/
def gatherStore (x : MemCtx) (pa : PAddr) (n : Nat) (v : BitVec 256) (m : MemSys) : MemRes Unit :=
  let line : BitVec 35 := pa.extractLsb' 5 35
  let off := lineOff pa
  let add (g : GatherBuf) (m : MemSys) : MemRes Unit :=
    let g1 : GatherBuf := { g with data := putBytes g.data off n v
                                   held := g.held ||| BitVec.ofNat 32 ((2 ^ n - 1) <<< off) }
    let m1 := { m with gather := some g1 }
    if g1.held = 0xFFFFFFFF then drainGather x m1 else .ok () m1
  match m.gather with
  | some g =>
    if g.line = line then add g m
    else (drainGather x m).bind fun _ m1 => add { line := line, data := 0, held := 0 } m1
  | none => add { line := line, data := 0, held := 0 } m

/-- Does the gather buffer hold a byte of the doubleword at `pa` (R298)? -/
def gatherHolds (m : MemSys) (pa : PAddr) : Bool :=
  match m.gather with
  | none => false
  | some g => g.line == pa.extractLsb' 5 35 && (g.held >>> (lineOff pa / 8 * 8)) &&& 0xFF != 0

/-- A data read of `n` bytes under a cache attribute (R290 to R292, R298). -/
def readAttr (x : MemCtx) (c : BitVec 3) (va : Word) (pa : PAddr) (n : Nat) (m : MemSys) :
    MemRes (BitVec 256) :=
  if c = 3 then
    (ensureD x .load va pa m).bind fun w m1 =>
      .ok (getBytes (dGet m1 (l1Set va) w).data (lineOff pa) n) m1
  else if c = 7 && gatherHolds m pa then
    (drainGather x m).bind fun _ m1 => busRead x .load pa n m1
  else busRead x .load pa n m

/-- A data write of `n` bytes under a cache attribute (R290 to R292, R297). A store to a line written back
before keeps its W bit, which the spec only sets (10_state.md R130). DESIGN CHOICE, log 20. -/
def writeAttr (x : MemCtx) (c : BitVec 3) (va : Word) (pa : PAddr) (n : Nat) (v : BitVec 256)
    (m : MemSys) : MemRes Unit :=
  if c = 3 then
    (ensureD x .store va pa m).bind fun w m1 =>
      let l := dGet m1 (l1Set va) w
      .ok () (dSet m1 (l1Set va) w { l with cs := 3, data := putBytes l.data (lineOff pa) n v })
  else if c = 7 then gatherStore x pa n v m
  else (drainGather x m).bind fun _ m1 => busWrite x pa n v m1

/-- An instruction read under a cache attribute (R287); an uncached one reads exactly the four bytes of the
instruction, the width not being stated: DESIGN CHOICE, log 18. A fetch leaves the gather buffer as it is and
reads behind it, because R298 drains for attribute-7 loads only and names no fetch: DESIGN CHOICE, log 21. -/
def fetchAttr (x : MemCtx) (c : BitVec 3) (va : Word) (pa : PAddr) (m : MemSys) : MemRes (BitVec 32) :=
  if c = 3 then
    (ensureI x va pa m).bind fun w m1 =>
      .ok ((getBytes (iGet m1 (l1Set va) w).data (lineOff pa) 4).setWidth 32) m1
  else (busRead x .fetch pa 4 m).bind fun d m1 => .ok (d.setWidth 32) m1

/-- The TagLo and TagHi images of a data-cache tag (R683); StateMod is W and two free bits (D18). -/
def tagImageD (x : MemCtx) (l : DLine) : BitVec 32 × BitVec 32 :=
  (l.tag.extractLsb' 0 24 ++ l.cs ++ l.way ++ (0 : BitVec 4),
   draw 2 .stateMod x.tick 0 ++ BitVec.ofBool l.w ++ (0 : BitVec 25) ++ l.tag.extractLsb' 24 4)

/-- The TagLo and TagHi images of a level-2 tag (R684). -/
def tagImageS (l : SLine) : BitVec 32 × BitVec 32 :=
  (l.tag.extractLsb' 0 19 ++ (0 : BitVec 1) ++ l.st ++ (0 : BitVec 10),
   (0 : BitVec 28) ++ l.tag.extractLsb' 19 4)

/-- One CACHE operation on a cached address (R680): TagLo and TagHi afterwards. -/
def cacheOp (x : MemCtx) (opn : Reg) (va : Word) (pa : PAddr) (tagLo tagHi : BitVec 32) (m : MemSys) :
    MemRes (BitVec 32 × BitVec 32) :=
  let keep (r : MemRes Unit) : MemRes (BitVec 32 × BitVec 32) := r.bind fun _ m1 => .ok (tagLo, tagHi) m1
  let set := l1Set va
  let way := (va.extractLsb' 0 2).toNat
  let sset := l2Set pa
  let sway := (pa.extractLsb' 0 2).toNat
  match opn.toNat with
  | 0x00 => .ok (tagLo, tagHi)
      (ways.foldl (fun m w => warmI (iSet m set w { iGet m set w with v := false }) set w) m)
  | 0x01 => keep (evictD x set way m)
  | 0x05 => .ok (tagImageD x (dGet m set way)) m
  | 0x09 =>
    let m1 := dSet m set way
      { dGet m set way with
        way := tagLo.extractLsb' 4 2, cs := tagLo.extractLsb' 6 2
        tag := tagHi.extractLsb' 0 4 ++ tagLo.extractLsb' 8 24 }
    .ok (tagLo, tagHi) (if tagLo.extractLsb' 6 2 = 0 then warmD m1 set way else m1)
  | 0x11 =>
    match dHit m set pa with
    | some w => .ok (tagLo, tagHi) (dSet m set w { dGet m set w with cs := 0 })
    | none => .ok (tagLo, tagHi) m
  | 0x15 =>
    match dHit m set pa with
    | some w => keep (evictD x set w m)
    | none => .ok (tagLo, tagHi) m
  | 0x19 =>
    let d := (dGet m set way).data >>> (64 * (va.extractLsb' 3 2).toNat)
    .ok (d.extractLsb' 0 32, d.extractLsb' 32 32) m
  | 0x1D => .ok (tagLo, tagHi) (dSet m set way
      { dGet m set way with
        data := putBytes (dGet m set way).data (8 * (va.extractLsb' 3 2).toNat) 8
          ((tagHi ++ tagLo).setWidth 256) })
  | 0x03 => keep (evictS x sset sway m)
  | 0x07 => .ok (tagImageS (sGet m sset sway)) m
  | 0x0B =>
    let m1 := sSet m sset sway
      { sGet m sset sway with
        st := tagLo.extractLsb' 10 2, tag := tagHi.extractLsb' 0 4 ++ tagLo.extractLsb' 13 19 }
    .ok (tagLo, tagHi) (if tagLo.extractLsb' 10 2 = 0 then warmS m1 sset sway else m1)
  | 0x13 =>
    match sHit m pa with
    | some w =>
      let r := dropDCopies false (lineOf pa) (sGet m sset w) (dropICopies (lineOf pa) m)
      .ok (tagLo, tagHi) (sSet r.2 sset w { r.1 with st := 0 })
    | none => .ok (tagLo, tagHi) m
  | 0x17 =>
    match sHit m pa with
    | some w => keep (evictS x sset w m)
    | none => .ok (tagLo, tagHi) m
  | 0x1B =>
    let d := (sGet m sset sway).data >>> (64 * (pa.extractLsb' 3 2).toNat)
    .ok (d.extractLsb' 0 32, d.extractLsb' 32 32) m
  | 0x1F => .ok (tagLo, tagHi) (sSet m sset sway
      { sGet m sset sway with
        data := putBytes (sGet m sset sway).data (8 * (pa.extractLsb' 3 2).toNat) 8
          ((tagHi ++ tagLo).setWidth 256) })
  | _ => .fault .cacheOpUndefined

end Sys2Proof.Machine
end

