-- ==== Sys2Proof/Machine/Mmu.lean ====
section
/-! DEFINITION. Modes, segments, the JTLB and the ITLB (20_memory.md R264 to R286), and the data and
instruction accesses that go through them (00_scope.md R26). -/

namespace Sys2Proof.Machine

/-- `Status.KSU` (11_cp0_registers.md R185). -/
def State.ksu (s : State) : BitVec 2 := s.cp0.status.extractLsb' 3 2
/-- `Status.ERL` (R185). -/
def State.erl (s : State) : Bool := s.cp0.status.getLsbD 2
/-- `Status.EXL` (R185). -/
def State.exl (s : State) : Bool := s.cp0.status.getLsbD 1
/-- `Status.IE` (R183). -/
def State.ie (s : State) : Bool := s.cp0.status.getLsbD 0
/-- `Status.BEV` (R182). -/
def State.bev (s : State) : Bool := s.cp0.status.getLsbD 22
/-- `Status.FR` (R182). -/
def State.fr (s : State) : Bool := s.cp0.status.getLsbD 26
/-- `Status.CU[n]` (R181). -/
def State.cu (s : State) (n : Nat) : Bool := s.cp0.status.getLsbD (28 + n)
/-- `EntryHi.ASID` (R174). -/
def State.asid (s : State) : BitVec 8 := s.cp0.entryHi.extractLsb' 0 8
/-- What a memory-system operation needs of the state besides the memory system. -/
def State.ctx (s : State) : MemCtx := { params := s.params, tick := s.tick }

/-- The operating mode (R185, 60_exceptions.md R890); none is the undefined KSU = 3 (U1). -/
def State.mode (s : State) : Option Mode :=
  if s.exl || s.erl then some .kernel
  else match s.ksu.toNat with
  | 0 => some .kernel
  | 1 => some .supervisor
  | 2 => some .user
  | _ => none

/-- An address in a segment the mode may use: mapped, or direct with its attribute. -/
inductive Segment where
  | mapped
  | direct (pa : PAddr) (c : BitVec 3)
deriving DecidableEq, Repr

/-- The kernel map, Figure 3-5 (R267, R271 to R273); none is an address error. -/
def kernelSegment (k0 : BitVec 3) (va : Word) : Option Segment :=
  match (va.extractLsb' 62 2).toNat with
  | 0 => if va.extractLsb' 40 22 = 0 then some .mapped else none
  | 1 => if va.extractLsb' 40 22 = 0 then some .mapped else none
  | 2 => if va.extractLsb' 40 19 = 0 then
      some (.direct (va.extractLsb' 0 40) (va.extractLsb' 59 3)) else none
  | _ =>
    if va.extractLsb' 31 31 = BitVec.allOnes 31 then
      match (va.extractLsb' 29 2).toNat with
      | 0 => some (.direct ((va.extractLsb' 0 29).setWidth 40) k0)
      | 1 => some (.direct ((va.extractLsb' 0 29).setWidth 40) 2)
      | _ => some .mapped
    else if va ≤ 0xC00000FF7FFFFFFF#64 then some .mapped
    else none

/-- The supervisor map (R266). -/
def supervisorSegment (va : Word) : Option Segment :=
  if va.extractLsb' 63 1 = 0 && va.extractLsb' 40 22 = 0 then some .mapped
  else if 0xFFFFFFFFC0000000#64 ≤ va && va ≤ 0xFFFFFFFFDFFFFFFF#64 then some .mapped
  else none

/-- The user map (R265). -/
def userSegment (va : Word) : Option Segment :=
  if va.extractLsb' 40 24 = 0 then some .mapped else none

/-- The map of a mode (R268, R269). -/
def segment (k0 : BitVec 3) (m : Mode) (va : Word) : Option Segment :=
  match m with
  | .kernel => kernelSegment k0 va
  | .supervisor => supervisorSegment va
  | .user => userSegment va

/-- Does a JTLB entry match an address under an ASID (R276)? -/
def TlbEntry.hits (e : TlbEntry) (asid : BitVec 8) (va : Word) : Bool :=
  (e.vpn2 ^^^ va.extractLsb' 13 27) &&& ~~~(e.mask.setWidth 27) == 0
    && e.r == va.extractLsb' 62 2 && (e.g || e.asid == asid)

/-- The entries that match (R276). -/
def tlbHits (s : State) (va : Word) : List (Fin 64) :=
  (List.finRange 64).filter fun i => s.tlb[i].hits s.asid va

/-- All entries have one page size (R165, U4). -/
def sameSize (s : State) : Bool := s.tlb.toList.all fun e => e.mask == s.tlb[0].mask

/-- Is the address in the odd page of the pair: bit VA[12 + 2k] (R277)? -/
def oddPage (mask : BitVec 12) (va : Word) : Bool :=
  va.extractLsb' 12 13 &&& (mask.setWidth 13 + 1) != 0

/-- The page of an entry the address selects (R277). -/
def TlbEntry.page (e : TlbEntry) (va : Word) : TlbPage := if oddPage e.mask va then e.odd else e.even

/-- The physical address in a page of the size `mask` says (R277). -/
def pageAddr (mask : BitVec 12) (pfn : BitVec 28) (va : Word) : PAddr :=
  merge (mask ++ (0xFFF : BitVec 12) |>.setWidth 40) (pfn ++ (0 : BitVec 12)) (va.extractLsb' 0 40)

/-- The outcome of a translation. -/
inductive Trans where
  | ok (pa : PAddr) (c : BitVec 3)
  | exc (e : Exc)
  | fault (f : Fault)
deriving DecidableEq, Repr

/-- The outcome for a selected page, in the order of R278: invalid, modified, not executable (R286), or the
address. With `noExecFirst`, which is off by default, a fetch tests E before V (60_exceptions.md R836).
DESIGN CHOICE, log 48. -/
def pageOutcome (noExecFirst : Bool) (acc : Access) (mask : BitVec 12) (p : TlbPage) (va : Word) : Trans :=
  let barred := acc == .fetch && p.e
  if noExecFirst && barred then .exc (.addressError false va)
  else if !p.v then .exc (.tlbInvalid (acc == .store) va)
  else if acc == .store && !p.d then .exc (.tlbModified va)
  else if barred then .exc (.addressError false va)
  else .ok (pageAddr mask p.pfn va) p.c

/-- Translation through the JTLB (R276 to R279). -/
def jtlb (s : State) (acc : Access) (va : Word) : Trans :=
  if !sameSize s then .fault .tlbMixedPageSizes
  else match tlbHits s va with
  | [] => .exc (.tlbRefill (acc == .store) va)
  | [i] => pageOutcome s.params.noExecFirst acc s.tlb[i].mask (s.tlb[i].page va) va
  | _ => .fault .tlbMultipleMatch

/-- Address check and translation of a data access (R268): `aligned` is the alignment rule's answer (R256). -/
def translate (s : State) (acc : Access) (aligned : Bool) (va : Word) : Trans :=
  match s.mode with
  | none => .fault .undefinedMode
  | some m =>
    if !aligned then .exc (.addressError (acc == .store) va)
    else match segment (s.cp0.config.extractLsb' 0 3) m va with
    | none => .exc (.addressError (acc == .store) va)
    | some (.direct pa c) => .ok pa c
    | some .mapped => jtlb s acc va

/-- Does the access fall in the watched doubleword with its bit set (11_cp0_registers.md R202)? -/
def watched (s : State) (store : Bool) (va : Word) : Bool :=
  va.extractLsb' 3 61 == s.cp0.watch.extractLsb' 3 61 && s.cp0.watch.getLsbD (if store then 0 else 1)

/-- Translation, then the Watch comparison (40_load_store.md R401). -/
def translateData (s : State) (store aligned : Bool) (va : Word) : Trans :=
  match translate s (if store then .store else .load) aligned va with
  | .ok pa c => if watched s store va then .exc .watch else .ok pa c
  | t => t

/-- The physical address of the byte `start` in the doubleword that holds `va`. -/
def sameDouble (pa : PAddr) (start : Word) : PAddr := pa.extractLsb' 3 37 ++ start.extractLsb' 0 3

/-- `MemRead`: check and translate `va`, then read `n` bytes from `start` (00_scope.md R26, R401). -/
def memRead (s : State) (aligned : Bool) (va start : Word) (n : Nat) : MemRes (BitVec 256) :=
  match translateData s false aligned va with
  | .ok pa c => readAttr s.ctx c va (sameDouble pa start) n s.mem
  | .exc e => .exc e s.mem
  | .fault f => .fault f

/-- `MemWrite`: check and translate `va`, then write `n` bytes from `start` (00_scope.md R26, R401). -/
def memWrite (s : State) (aligned : Bool) (va start : Word) (n : Nat) (v : BitVec 256) : MemRes Unit :=
  match translateData s true aligned va with
  | .ok pa c => writeAttr s.ctx c va (sameDouble pa start) n v s.mem
  | .exc e => .exc e s.mem
  | .fault f => .fault f

/-- Natural alignment for an access of `n` bytes (R256). -/
def alignedTo (n : Nat) (va : Word) : Bool := va.toNat % n == 0

/-- Does a held ITLB entry match (R284)? It is matched under the page size it was loaded with, which need
not be the one PageMask says by now. DESIGN CHOICE, log 18. -/
def ItlbEntry.hits (e : ItlbEntry) (useAsid : Bool) (asid : BitVec 8) (va : Word) : Bool :=
  (e.vpn ^^^ va.extractLsb' 12 28) &&& ~~~(e.mask.setWidth 28) == 0
    && e.r == va.extractLsb' 62 2 && (e.g || e.asid == asid || !useAsid)

/-- The ITLB with one more page: a free value says which of sixteen is replaced (R284). -/
def itlbFill (s : State) (e : ItlbEntry) : List ItlbEntry :=
  if s.itlb.length < 16 then e :: s.itlb
  else s.itlb.set ((draw 4 .victimItlb s.tick 0).toNat) e

/-- A page of a JTLB entry as the ITLB holds it (10_state.md R128). -/
def itlbOf (e : TlbEntry) (va : Word) : ItlbEntry :=
  { r := e.r, vpn := va.extractLsb' 12 28 &&& ~~~(e.mask.setWidth 28), g := e.g, asid := e.asid
    mask := e.mask, page := e.page va }

/-- `PageMask.Mask` (11_cp0_registers.md R163). -/
def State.maskField (s : State) : BitVec 12 := s.cp0.pageMask.extractLsb' 13 12

/-- The held ITLB page a fetch uses: of several that match any may be used, so a free value picks one
(10_state.md R128). DESIGN CHOICE, log 18. -/
def itlbPick (s : State) (va : Word) : Option ItlbEntry :=
  match s.itlb.filter fun e => e.hits s.params.itlbAsid s.asid va with
  | [] => none
  | [e] => some e
  | e :: es => some ((e :: es).getD ((draw 32 .pickItlb s.tick 0).toNat % (es.length + 1)) e)

/-- A page used for a fetch: its size must be the one PageMask says (R165, R284). -/
def fetchPage (s : State) (mask : BitVec 12) (p : TlbPage) (va : Word) : Trans :=
  if mask = s.maskField then pageOutcome s.params.noExecFirst .fetch mask p va
  else .fault .tlbMixedPageSizes

/-- Translation of a fetch from a mapped segment: a held ITLB page, else the JTLB, whose page is then
held (R284, R285); page sizes that differ stop it in both cases (R165). -/
def fetchMapped (s : State) (va : Word) : Trans × List ItlbEntry :=
  if !sameSize s then (.fault .tlbMixedPageSizes, s.itlb)
  else match itlbPick s va with
  | some e => (fetchPage s e.mask e.page va, s.itlb)
  | none =>
    match tlbHits s va with
    | [] => (.exc (.tlbRefill false va), s.itlb)
    | [i] => (fetchPage s s.tlb[i].mask (s.tlb[i].page va) va, itlbFill s (itlbOf s.tlb[i] va))
    | _ => (.fault .tlbMultipleMatch, s.itlb)

/-- Address check and translation of a fetch (R258, R268), with the ITLB afterwards. -/
def translateFetch (s : State) (va : Word) : Trans × List ItlbEntry :=
  match s.mode with
  | none => (.fault .undefinedMode, s.itlb)
  | some m =>
    if !alignedTo 4 va then (.exc (.addressError false va), s.itlb)
    else match segment (s.cp0.config.extractLsb' 0 3) m va with
    | none => (.exc (.addressError false va), s.itlb)
    | some (.direct pa c) => (.ok pa c, s.itlb)
    | some .mapped => fetchMapped s va

end Sys2Proof.Machine
end

