-- ==== Sys2Proof/Machine/Operands.lean ====
section
/-! DEFINITION. Operand forms: general registers, effective addresses, floating registers in each format,
and the CP0 registers as MFC0 and MTC0 see them. -/

namespace Sys2Proof.Machine

/-- `GPR[r]`, register 0 reading 0 (10_state.md R100, R101). -/
def State.reg (s : State) (r : Reg) : Word := if r = 0 then 0 else s.gpr[r.toNat]'r.isLt

/-- `GPR[r] <- v`, a write of register 0 discarded (10_state.md R101). -/
def State.setReg (s : State) (r : Reg) (v : Word) : State :=
  if r = 0 then s else { s with gpr := s.gpr.set r.toNat v r.isLt }

/-- `GPR[base] + sext_64(offset)`, modulo 2^64 (20_memory.md R270, 40_load_store.md R400). -/
def State.ea (s : State) (base : Reg) (offset : Imm16) : Word := s.reg base + sext16 offset

/-- All 64 bits of a floating register (10_state.md R112). -/
def State.fprAt (s : State) (r : Reg) : Word := s.fpr[r.toNat]'r.isLt
/-- All 64 bits of a floating register written. -/
def State.setFprAt (s : State) (r : Reg) (v : Word) : State := { s with fpr := s.fpr.set r.toNat v r.isLt }

/-- The even register of the pair `r` lies in with FR = 0 (10_state.md R114). -/
def evenOf (r : Reg) : Reg := r &&& 0x1E

/-- May `r` name a 64-bit or PS operand (10_state.md R114, U20)? -/
def State.doubleOk (s : State) (r : Reg) : Bool := s.fr || !r.getLsbD 0

/-- A 32-bit read of a floating register (10_state.md R114). -/
def State.fprS (s : State) (r : Reg) : BitVec 32 :=
  if s.fr || !r.getLsbD 0 then lo32 (s.fprAt r) else hi32 (s.fprAt (evenOf r))

/-- A 32-bit write of a floating register: with FR = 1 the upper half becomes a free value (R114, U22). -/
def State.setFprS (s : State) (r : Reg) (v : BitVec 32) : State :=
  if s.fr then s.setFprAt r (draw 32 .fprUpper s.tick r.toNat ++ v)
  else if r.getLsbD 0 then s.setFprAt (evenOf r) (v ++ lo32 (s.fprAt (evenOf r)))
  else s.setFprAt r (hi32 (s.fprAt r) ++ v)

/-- The performance-counter overflow interrupt (11_cp0_registers.md R220). -/
def State.perfInt (s : State) : Bool :=
  s.cp0.perfCtl.getLsbD 4 && (s.cp0.perfCnt0.msb || s.cp0.perfCnt1.msb)

/-- `Cause.IP[7:0]`: the timer latch, the controller's lines with the counter overflow on IP[6], and the
software bits (11_cp0_registers.md R192, 61_platform.md R940). -/
def State.ip (s : State) : BitVec 8 :=
  BitVec.ofBool s.cp0.timer ++ (s.mem.chip.lines ||| (if s.perfInt then 0x10 else 0))
    ++ s.cp0.cause.extractLsb' 8 2

/-- Cause as software reads it (11_cp0_registers.md R190, R192). -/
def State.causeView (s : State) : BitVec 32 :=
  merge 0xFF00 s.cp0.cause (s.ip.setWidth 32 <<< 8)

/-- PRID (11_cp0_registers.md R196). -/
def pridValue : BitVec 32 := 0x00006302
/-- FCR0 (10_state.md R118). -/
def fcr0Value : BitVec 32 := 0x00000501

/-- `CPR[n]` as 64 bits, a 32-bit register sign-extended (11_cp0_registers.md R152 and each register's
section); reserved numbers read 0 (R151), LLAddr a free value (R200). -/
def State.cp0Read (s : State) (n : Reg) : Word :=
  match n.toNat with
  | 0 => sext32 s.cp0.index
  | 1 => s.cp0.random.setWidth 64
  | 2 => s.cp0.entryLo0
  | 3 => s.cp0.entryLo1
  | 4 => s.cp0.context
  | 5 => sext32 s.cp0.pageMask
  | 6 => s.cp0.wired.setWidth 64
  | 8 => s.cp0.badVAddr
  | 9 => sext32 s.cp0.count
  | 10 => s.cp0.entryHi
  | 11 => sext32 s.cp0.compare
  | 12 => sext32 s.cp0.status
  | 13 => sext32 s.causeView
  | 14 => s.cp0.epc
  | 15 => sext32 pridValue
  | 16 => sext32 s.cp0.config
  | 17 => draw 64 .llAddr s.tick 0
  | 18 => s.cp0.watch
  | 20 => s.cp0.xcontext
  | 22 => s.cp0.diag
  | 24 => sext32 s.cp0.perfCtl
  | 25 => s.cp0.perfCnt1 ++ s.cp0.perfCnt0
  | 28 => sext32 s.cp0.tagLo
  | 29 => sext32 s.cp0.tagHi
  | 30 => s.cp0.errorEpc
  | _ => 0

/-- The bits of Status software writes (11_cp0_registers.md R180, R186). -/
def statusMask (p : ChipParams) : BitVec 32 :=
  0xF450FF1F ||| BitVec.twoPow 32 p.nofdivBit ||| BitVec.twoPow 32 p.nofsqrBit
/-- The bits of EntryLo0 and EntryLo1 that exist (R157, R159). -/
def entryLoMask (p : ChipParams) : Word := 0x3FFFFFFFF ||| BitVec.twoPow 64 p.entryLoEBit
/-- The bits of EntryHi that exist (R174). -/
def entryHiMask : Word := 0xC00000FFFFFFE0FF
/-- The bits of Diagnostic the model stores (R211, R213). -/
def diagMask (p : ChipParams) : Word := BitVec.twoPow 64 p.diagRas ||| BitVec.twoPow 64 p.diagUMode
/-- The bits of Diagnostic no program may set (R212, U12). -/
def diagRefused (p : ChipParams) : Word :=
  BitVec.twoPow 64 p.diagWCac ||| BitVec.twoPow 64 p.diagWIss ||| BitVec.twoPow 64 p.diagSIss
    ||| BitVec.twoPow 64 p.diagSFet

/-- The CP0 registers with `CPR[n] <- v`: each register's write rule (11_cp0_registers.md); read-only
and reserved ones ignore it (D29). -/
def writeCp0 (p : ChipParams) (c : Cp0) (n : Reg) (v : Word) : Cp0 :=
  match n.toNat with
  | 0 => { c with index := lo32 v &&& 0x8000003F }
  | 2 => { c with entryLo0 := v &&& entryLoMask p }
  | 3 => { c with entryLo1 := v &&& entryLoMask p }
  | 4 => { c with context := merge 0xFFFFFFFFFF800000 c.context v }
  | 5 => { c with pageMask := lo32 v &&& 0x01FFE000 }
  | 6 => { c with wired := v.extractLsb' 0 6, random := 63, randomFresh := true }
  | 9 => { c with count := lo32 v, timer := c.timer || lo32 v == c.compare }
  | 10 => { c with entryHi := v &&& entryHiMask }
  | 11 => { c with compare := lo32 v, timer := false }
  | 12 => { c with status := lo32 v &&& statusMask p }
  | 13 => { c with cause := merge 0x300 c.cause (lo32 v) }
  | 14 => { c with epc := v }
  | 16 => { c with config := merge 0x7 c.config (lo32 v) }
  | 18 => { c with watch := v &&& 0xFFFFFFFFFFFFFFFB }
  | 20 => { c with xcontext := merge 0xFFFFFFFE00000000 c.xcontext v }
  | 22 => { c with diag := v &&& diagMask p }
  | 24 => { c with perfCtl := lo32 v &&& 0x1FFF }
  | 25 => { c with perfCnt1 := hi32 v, perfCnt0 := lo32 v }
  | 28 => { c with tagLo := lo32 v }
  | 29 => { c with tagHi := lo32 v }
  | 30 => { c with errorEpc := v }
  | _ => c

/-- `CPR[n] <- v`: the register's write, and the ITLB emptied by Diagnostic.ITLB (R213); a write of a
serialisation bit of Diagnostic is refused (R212). -/
def State.cp0Write (s : State) (n : Reg) (v : Word) : Except Refusal State :=
  let s1 := { s with cp0 := writeCp0 s.params s.cp0 n v }
  if n = 22 then
    if v &&& diagRefused s.params != 0 then .error .diagnosticSerialisation
    else if v.getLsbD s.params.diagItlb then .ok { s1 with itlb := [] }
    else .ok s1
  else .ok s1

end Sys2Proof.Machine
end

