-- ==== Sys2Proof/Machine/Flags.lean ====
section
/-! DEFINITION. FCR31, the only register with condition, cause and flag bits (10_state.md R110, R119 to
R123): its fields, the trap decision and what an operation writes into it (47_fpu.md R703, R711). -/

namespace Sys2Proof.Machine

/-- A set of cause bits: E 5, V 4, Z 3, O 2, U 1, I 0 (10_state.md R119). -/
abbrev Causes := BitVec 6

/-- Unimplemented Operation (47_fpu.md R704). -/
def causeE : Causes := 0x20
/-- Invalid Operation (R705). -/
def causeV : Causes := 0x10
/-- Division by Zero (R706). -/
def causeZ : Causes := 0x08
/-- Overflow (R707). -/
def causeO : Causes := 0x04
/-- Underflow (R708). -/
def causeU : Causes := 0x02
/-- Inexact (R710). -/
def causeI : Causes := 0x01

/-- `FCR31.RM` (10_state.md R119). -/
def fcrRm (f : BitVec 32) : BitVec 2 := f.extractLsb' 0 2
/-- `FCR31.Enables` (R119). -/
def fcrEnables (f : BitVec 32) : BitVec 5 := f.extractLsb' 7 5
/-- `FCR31.Causes` (R119). -/
def fcrCauses (f : BitVec 32) : Causes := f.extractLsb' 12 6
/-- `FCR31.CC0` (R121). -/
def fcrCc0 (f : BitVec 32) : Bool := f.getLsbD 23
/-- `FCR31.FS` (R122). -/
def fcrFs (f : BitVec 32) : Bool := f.getLsbD 24
/-- The bits of FCR31 that exist (R120). -/
def fcrMask : BitVec 32 := 0x0383FFFF

/-- `FCR31.Causes <- C` (47_fpu.md R703 step 3). -/
def fcrSetCauses (f : BitVec 32) (c : Causes) : BitVec 32 := merge 0x0003F000 f (c.setWidth 32 <<< 12)
/-- `FCR31.Flags |= C` but E (R703 step 5). -/
def fcrAddFlags (f : BitVec 32) (c : Causes) : BitVec 32 := f ||| ((c &&& 0x1F).setWidth 32 <<< 2)
/-- `FCR31.CC0 <- b` (R121). -/
def fcrSetCc0 (f : BitVec 32) (b : Bool) : BitVec 32 := setBit f 23 b
/-- `FCR31.CC1 <- b` (R121). -/
def fcrSetCc1 (f : BitVec 32) (b : Bool) : BitVec 32 := setBit f 25 b

/-- Do the causes trap: E, or an enabled one (47_fpu.md R711)? -/
def fcrTraps (f : BitVec 32) (c : Causes) : Bool := (c &&& (BitVec.ofBool true ++ fcrEnables f)) != 0

end Sys2Proof.Machine
end

