-- ==== Sys2Proof/Machine/Ops.lean ====
section
/-! DEFINITION. The operations the meanings share: moving on, delay slots, taking an exception and
returning from one, the checks of coprocessors, and loads and stores. -/

namespace Sys2Proof.Machine

/-- What a step answers. -/
abbrev Res := Host.Outcome State Fault Refusal

/-- The instruction is done: the pending target, or the next word (10_state.md R104, R107, R550). -/
def advance (s : State) : State :=
  { s with pc := s.nextPc.getD (s.pc + 4), nextPc := none, inSlot := false }

/-- `GPR[r] <- v`, and on to the next instruction. -/
def writeNext (r : Reg) (v : Word) (s : State) : Res := .next (advance (s.setReg r v))

/-- ExcCode (60_exceptions.md R832). -/
def excCode : Exc → BitVec 5
  | .int => 0
  | .tlbModified _ => 1
  | .tlbRefill st _ => if st then 3 else 2
  | .tlbInvalid st _ => if st then 3 else 2
  | .addressError st _ => if st then 5 else 4
  | .busError f => if f then 6 else 7
  | .syscall => 8
  | .breakpoint => 9
  | .reserved => 10
  | .coprocessor _ => 11
  | .overflow => 12
  | .trap => 13
  | .fpe => 15
  | .watch => 23

/-- A TLB refill, which has its own vector (R834, R860). -/
def excRefill : Exc → Bool
  | .tlbRefill _ _ => true
  | _ => false

/-- The address a TLB exception records in Context, XContext and EntryHi (R843). -/
def excTlbVa : Exc → Option Word
  | .tlbModified va => some va
  | .tlbRefill _ va => some va
  | .tlbInvalid _ va => some va
  | _ => none

/-- The address an exception records in BadVAddr (R843). -/
def excBadVa : Exc → Option Word
  | .addressError _ va => some va
  | e => excTlbVa e

/-- The coprocessor number of CoprocessorUnusable (R871). -/
def excUnit : Exc → Option (BitVec 2)
  | .coprocessor u => some u
  | _ => none

/-- The vector, from BEV and EXL before entry (R834). -/
def excVector (bev exl : Bool) (e : Exc) : Word :=
  (if bev then 0xFFFFFFFFBFC00200 else 0xFFFFFFFF80000000) + (if excRefill e && !exl then 0 else 0x180)

/-- Context, XContext and EntryHi after a TLB exception at `va`, and EntryLo0 and EntryLo1 free values
(R843, R862, 11_cp0_registers.md R160, R174, R204). -/
def tlbRecord (p : ChipParams) (tick : Nat) (va : Word) (c : Cp0) : Cp0 :=
  { c with
    context := merge 0x7FFFF0 c.context (((va.extractLsb' 13 19).setWidth 64) <<< 4)
    xcontext := merge 0x1FFFFFFF0 c.xcontext ((va.extractLsb' 62 2 ++ va.extractLsb' 13 27).setWidth 64 <<< 4)
    entryHi := merge 0xC00000FFFFFFE000 c.entryHi va
    entryLo0 := draw 64 .entryLo tick 0 &&& entryLoMask p
    entryLo1 := draw 64 .entryLo tick 1 &&& entryLoMask p }

/-- EPC and Cause.BD at entry, kept when EXL is already 1 (R840). -/
def entryPc (s : State) (c : Cp0) : Cp0 :=
  if s.exl then c
  else { c with epc := if s.inSlot then s.pc - 4 else s.pc, cause := setBit c.cause 31 s.inSlot }

/-- Cause.ExcCode, and Cause.CE for CoprocessorUnusable (R840). -/
def entryCause (e : Exc) (c : Cp0) : Cp0 :=
  let c1 := { c with cause := merge 0x7C c.cause ((excCode e).setWidth 32 <<< 2) }
  match excUnit e with
  | some u => { c1 with cause := merge 0x30000000 c1.cause (u.setWidth 32 <<< 28) }
  | none => c1

/-- BadVAddr, and the TLB exceptions' registers (R843). -/
def entryAddress (p : ChipParams) (tick : Nat) (e : Exc) (c : Cp0) : Cp0 :=
  let c1 := match excBadVa e with
    | some va => { c with badVAddr := va }
    | none => c
  match excTlbVa e with
  | some va => tlbRecord p tick va c1
  | none => c1

/-- TAKING AN EXCEPTION: the entry sequence of 60_exceptions.md R840. -/
def takeException (e : Exc) (s : State) : State :=
  let c := entryAddress s.params s.tick e (entryCause e (entryPc s s.cp0))
  { s with
    cp0 := { c with status := setBit c.status 1 true }
    pc := excVector s.bev s.exl e
    nextPc := none
    inSlot := false }

/-- An instruction that raises an exception: its entry is the next state (R836). -/
def raise (e : Exc) (s : State) : Res := .next (takeException e s)

/-- RETURNING FROM AN EXCEPTION: ERET (46_cp0_privileged.md R673, R674). -/
def returnFromException (s : State) : State :=
  if s.erl then
    { s with
      pc := if s.params.eretErrorEpc then s.cp0.errorEpc else s.cp0.epc
      cp0 := { s.cp0 with status := setBit s.cp0.status 2 false }
      llBit := false, nextPc := none, inSlot := false }
  else
    { s with
      pc := s.cp0.epc
      cp0 := { s.cp0 with status := setBit s.cp0.status 1 false }
      llBit := false, nextPc := none, inSlot := false }

/-- NMI and soft reset entry (60_exceptions.md R850, 11_cp0_registers.md R231). -/
def takeNmi (s : State) : State :=
  { s with
    cp0 := { s.cp0 with
      errorEpc := if s.inSlot then s.pc - 4 else s.pc
      status := setBit (setBit (setBit s.cp0.status 2 true) 20 true) 22 true
      badVAddr := draw 64 .badVAddr s.tick 0 }
    pc := resetVector, nextPc := none, inSlot := false, nmi := false }

/-- May a CP0 instruction run (11_cp0_registers.md R150)? -/
def State.cp0Usable (s : State) : Bool := s.mode == some .kernel || s.cu 0

/-- A CP0 instruction, or CoprocessorUnusable with CE = 0 (60_exceptions.md R871). -/
def withCp0 (s : State) (r : Res) : Res := if s.cp0Usable then r else raise (.coprocessor 0) s

/-- A CP1 instruction, or CoprocessorUnusable with CE = 1 (47_fpu.md R700). -/
def withCp1 (s : State) (r : Res) : Res := if s.cu 1 then r else raise (.coprocessor 1) s

/-- 64-bit floating operands, an odd register with FR = 0 stopping the machine (10_state.md R114, U20). -/
def withDouble (s : State) (rs : List Reg) (r : Res) : Res :=
  if rs.all s.doubleOk then r else .fault .fprOddRegister

/-- Go on with what a memory operation gives, or take its exception, or stop. -/
def afterMem {α : Type} (s : State) (r : MemRes α) (k : α → State → Res) : Res :=
  match r with
  | .ok a m => k a { s with mem := m }
  | .exc e m => raise e { s with mem := m }
  | .fault f => .fault f

/-- A branch or jump at `pc` with its delay slot (43_branch_jump.md R550, R551); in a slot it stops (R555). -/
def branch (taken likely : Bool) (target : Word) (s : State) : Res :=
  if s.inSlot then .fault .branchInDelaySlot
  else if taken then .next { s with pc := s.pc + 4, nextPc := some target, inSlot := true }
  else if likely then .next { s with pc := s.pc + 8, nextPc := none, inSlot := false }
  else .next { s with pc := s.pc + 4, nextPc := none, inSlot := true }

/-- The target of an I-type branch (43_branch_jump.md R552). -/
def branchTarget (s : State) (imm : Imm16) : Word := s.pc + 4 + (sext16 imm <<< 2)

/-- The target of J and JAL (43_branch_jump.md R553). -/
def jumpTarget (s : State) (target : BitVec 26) : Word :=
  (s.pc + 4).extractLsb' 28 36 ++ target ++ (0 : BitVec 2)

/-- The link register `r` takes `pc + 8` (43_branch_jump.md R554). -/
def link (r : Reg) (s : State) : State := s.setReg r (s.pc + 8)

/-- A data-cache fill whose data no instruction waits for: a read that never ends stops the machine
(70_reset_and_hazards.md R1016), nothing else that goes wrong with it shows; while the caches are not
initialised it does nothing (log 39). -/
def quietFill (s : State) (va : Word) (pa : PAddr) : Except Fault State :=
  match ensureD s.ctx .load va pa s.mem with
  | .ok _ m => .ok { s with mem := m }
  | .exc _ _ => .ok s
  | .fault .pciRetryForever => .error .pciRetryForever
  | .fault _ => .ok s

/-- The cache fill a load to register 0 may do (40_load_store.md R403): a free value decides. -/
def prefetchFill (s : State) (va : Word) (pa : PAddr) : Except Fault State :=
  if (draw 1 .prefetch s.tick 0).getLsbD 0 then quietFill s va pa else .ok s

/-- A load to register 0 (40_load_store.md R403): no exception, Watch among them, and no register. At a cached
address it is a cached load, which stops while the caches are not initialised (20_memory.md R299). -/
def prefetch (aligned : Bool) (va : Word) (s : State) : Res :=
  match translate s .load aligned va with
  | .ok pa c =>
    if c = 3 then
      if !cachesReady s.mem then .fault .cacheUninitialised
      else match prefetchFill s va pa with
      | .ok s1 => .next (advance s1)
      | .error f => .fault f
    else .next (advance s)
  | .exc _ => .next (advance s)
  | .fault f => .fault f

/-- A load of the `n` bytes at the effective address into `rt` (40_load_store.md R401, R404 to R410). -/
def loadReg (base rt : Reg) (offset : Imm16) (n : Nat) (ext : BitVec 256 → Word) (s : State) : Res :=
  let va := s.ea base offset
  if rt = 0 then prefetch (alignedTo n va) va s
  else afterMem s (memRead s (alignedTo n va) va va n) fun d s1 => writeNext rt (ext d) s1

/-- An unaligned load: `n` bytes from `start`, merged into `rt` (40_load_store.md R411). -/
def loadPart (rt : Reg) (va start : Word) (n : Nat) (into : Word → BitVec 256 → Word) (s : State) : Res :=
  if rt = 0 then prefetch true va s
  else afterMem s (memRead s true va start n) fun d s1 => writeNext rt (into (s.reg rt) d) s1

/-- A store of `n` bytes of `v` at the effective address (40_load_store.md R401, R420 to R423). -/
def storeMem (base : Reg) (offset : Imm16) (n : Nat) (v : Word) (s : State) : Res :=
  let va := s.ea base offset
  afterMem s (memWrite s (alignedTo n va) va va n (v.setWidth 256)) fun _ s1 => .next (advance s1)

/-- An unaligned store of `n` bytes of `v` from `start` (40_load_store.md R411). -/
def storePart (va start : Word) (n : Nat) (v : Word) (s : State) : Res :=
  afterMem s (memWrite s true va start n (v.setWidth 256)) fun _ s1 => .next (advance s1)

/-- LL and LLD: a load that sets the link (40_load_store.md R429, R430). -/
def loadLinked (base rt : Reg) (offset : Imm16) (n : Nat) (ext : BitVec 256 → Word) (s : State) : Res :=
  let va := s.ea base offset
  match translateData s false (alignedTo n va) va with
  | .ok pa c =>
    afterMem s (readAttr s.ctx c va pa n s.mem) fun d s1 =>
      writeNext rt (ext d) { s1 with llBit := true, llAddr := pa }
  | .exc e => raise e s
  | .fault f => .fault f

/-- SC and SCD: a store under the link, the result in `rt` (40_load_store.md R431, R432). The checks of
alignment, segment and TLB come first; at another address a free value decides; the store that is done is
compared with Watch, a failing one is not. -/
def storeConditional (base rt : Reg) (offset : Imm16) (n : Nat) (s : State) : Res :=
  let va := s.ea base offset
  match translate s .store (alignedTo n va) va with
  | .ok pa c =>
    if s.llBit && (s.llAddr == pa || (draw 1 .scOther s.tick 0).getLsbD 0) then
      if watched s true va then raise .watch s
      else afterMem s (writeAttr s.ctx c va pa n ((s.reg rt).setWidth 256) s.mem) fun _ s1 =>
        writeNext rt 1 { s1 with llBit := false }
    else writeNext rt 0 { s with llBit := false }
  | .exc e => raise e s
  | .fault f => .fault f

end Sys2Proof.Machine
end

