-- ==== Sys2Proof/Machine/Alu.lean ====
section
/-! DEFINITION. Integer arithmetic, logic and conditional moves (41_alu.md). -/

namespace Sys2Proof.Machine

/-- A result that must fit in 32 bits, sign-extended; none is overflow (41_alu.md R452). -/
def exact32 (x : Int) : Option Word :=
  if -2 ^ 31 ≤ x && x < 2 ^ 31 then some (sext32 (BitVec.ofInt 32 x)) else none

/-- A result that must fit in 64 bits; none is overflow (41_alu.md R452). -/
def exact64 (x : Int) : Option Word :=
  if -2 ^ 63 ≤ x && x < 2 ^ 63 then some (BitVec.ofInt 64 x) else none

/-- Write the result, or take Overflow (41_alu.md R452). -/
def trapOverflow (x : Option Word) (r : Reg) (s : State) : Res :=
  match x with
  | some v => writeNext r v s
  | none => raise .overflow s

/-- A comparison's result (10_state.md R110). -/
def ofBit (b : Bool) : Word := if b then 1 else 0

/-- ADDI (R455): 32-bit sum, Overflow when it does not fit. -/
def execAddi (rs rt : Reg) (imm : Imm16) (s : State) : Res :=
  trapOverflow (exact32 ((lo32 (s.reg rs)).toInt + imm.toInt)) rt s

/-- DADDI (R456): 64-bit sum, Overflow when it does not fit. -/
def execDaddi (rs rt : Reg) (imm : Imm16) (s : State) : Res :=
  trapOverflow (exact64 ((s.reg rs).toInt + imm.toInt)) rt s

/-- ADDIU (R457): 32-bit sum, sign-extended. -/
def execAddiu (rs rt : Reg) (imm : Imm16) (s : State) : Res :=
  writeNext rt (sext32 (lo32 (s.reg rs) + imm.signExtend 32)) s

/-- DADDIU (R458): 64-bit sum. -/
def execDaddiu (rs rt : Reg) (imm : Imm16) (s : State) : Res :=
  writeNext rt (s.reg rs + sext16 imm) s

/-- SLTI (R459): signed comparison with the sign-extended immediate. -/
def execSlti (rs rt : Reg) (imm : Imm16) (s : State) : Res :=
  writeNext rt (ofBit ((s.reg rs).slt (sext16 imm))) s

/-- SLTIU (R460): unsigned comparison with the sign-extended immediate. -/
def execSltiu (rs rt : Reg) (imm : Imm16) (s : State) : Res :=
  writeNext rt (ofBit ((s.reg rs).ult (sext16 imm))) s

/-- ANDI (R461): and with the zero-extended immediate. -/
def execAndi (rs rt : Reg) (imm : Imm16) (s : State) : Res :=
  writeNext rt (s.reg rs &&& zext16 imm) s

/-- ORI (R462): or with the zero-extended immediate. -/
def execOri (rs rt : Reg) (imm : Imm16) (s : State) : Res :=
  writeNext rt (s.reg rs ||| zext16 imm) s

/-- XORI (R463): exclusive or with the zero-extended immediate. -/
def execXori (rs rt : Reg) (imm : Imm16) (s : State) : Res :=
  writeNext rt (s.reg rs ^^^ zext16 imm) s

/-- LUI (R464): the immediate in bits [31:16], sign-extended. -/
def execLui (rt : Reg) (imm : Imm16) (s : State) : Res :=
  writeNext rt (sext32 (imm ++ (0 : BitVec 16))) s

/-- ADD (R470): 32-bit sum, Overflow when it does not fit. -/
def execAdd (rs rt rd : Reg) (s : State) : Res :=
  trapOverflow (exact32 ((lo32 (s.reg rs)).toInt + (lo32 (s.reg rt)).toInt)) rd s

/-- DADD (R471): 64-bit sum, Overflow when it does not fit. -/
def execDadd (rs rt rd : Reg) (s : State) : Res :=
  trapOverflow (exact64 ((s.reg rs).toInt + (s.reg rt).toInt)) rd s

/-- ADDU (R472): 32-bit sum, sign-extended. -/
def execAddu (rs rt rd : Reg) (s : State) : Res :=
  writeNext rd (sext32 (lo32 (s.reg rs) + lo32 (s.reg rt))) s

/-- DADDU (R473): 64-bit sum. -/
def execDaddu (rs rt rd : Reg) (s : State) : Res :=
  writeNext rd (s.reg rs + s.reg rt) s

/-- SUB (R474): 32-bit difference, Overflow when it does not fit. -/
def execSub (rs rt rd : Reg) (s : State) : Res :=
  trapOverflow (exact32 ((lo32 (s.reg rs)).toInt - (lo32 (s.reg rt)).toInt)) rd s

/-- DSUB (R475): 64-bit difference, Overflow when it does not fit. -/
def execDsub (rs rt rd : Reg) (s : State) : Res :=
  trapOverflow (exact64 ((s.reg rs).toInt - (s.reg rt).toInt)) rd s

/-- SUBU (R476): 32-bit difference, sign-extended. -/
def execSubu (rs rt rd : Reg) (s : State) : Res :=
  writeNext rd (sext32 (lo32 (s.reg rs) - lo32 (s.reg rt))) s

/-- DSUBU (R477): 64-bit difference. -/
def execDsubu (rs rt rd : Reg) (s : State) : Res :=
  writeNext rd (s.reg rs - s.reg rt) s

/-- SLT (R478): signed comparison. -/
def execSlt (rs rt rd : Reg) (s : State) : Res :=
  writeNext rd (ofBit ((s.reg rs).slt (s.reg rt))) s

/-- SLTU (R479): unsigned comparison. -/
def execSltu (rs rt rd : Reg) (s : State) : Res :=
  writeNext rd (ofBit ((s.reg rs).ult (s.reg rt))) s

/-- AND (R480): bitwise and. -/
def execAnd (rs rt rd : Reg) (s : State) : Res :=
  writeNext rd (s.reg rs &&& s.reg rt) s

/-- OR (R481): bitwise or. -/
def execOr (rs rt rd : Reg) (s : State) : Res :=
  writeNext rd (s.reg rs ||| s.reg rt) s

/-- XOR (R482): bitwise exclusive or. -/
def execXor (rs rt rd : Reg) (s : State) : Res :=
  writeNext rd (s.reg rs ^^^ s.reg rt) s

/-- NOR (R483): bitwise nor. -/
def execNor (rs rt rd : Reg) (s : State) : Res :=
  writeNext rd (~~~(s.reg rs ||| s.reg rt)) s

/-- MOVZ (R486): `rd` takes `rs` when `rt` is 0. -/
def execMovz (rs rt rd : Reg) (s : State) : Res :=
  if s.reg rt = 0 then writeNext rd (s.reg rs) s else .next (advance s)

/-- MOVN (R487): `rd` takes `rs` when `rt` is not 0. -/
def execMovn (rs rt rd : Reg) (s : State) : Res :=
  if s.reg rt = 0 then .next (advance s) else writeNext rd (s.reg rs) s

end Sys2Proof.Machine
end

