-- ==== Sys2Proof/Machine/Branch.lean ====
section
/-! DEFINITION. Jumps and branches (43_branch_jump.md). -/

namespace Sys2Proof.Machine

/-- J (R560): jump in the 256 MB region of the delay slot. -/
def execJ (target : BitVec 26) (s : State) : Res :=
  branch true false (jumpTarget s target) s

/-- JAL (R561): the same, with the link in register 31. -/
def execJal (target : BitVec 26) (s : State) : Res :=
  branch true false (jumpTarget s target) (link 31 s)

/-- JR (R562): jump to `rs`. -/
def execJr (rs : Reg) (s : State) : Res :=
  branch true false (s.reg rs) s

/-- JALR (R563): jump to `rs` as read before the link is written to `rd`. -/
def execJalr (rs rd : Reg) (s : State) : Res :=
  branch true false (s.reg rs) (link rd s)

/-- BEQ (R564): taken when `rs` equals `rt`. -/
def execBeq (rs rt : Reg) (imm : Imm16) (s : State) : Res :=
  branch (s.reg rs == s.reg rt) false (branchTarget s imm) s

/-- BNE (R565): taken when `rs` differs from `rt`. -/
def execBne (rs rt : Reg) (imm : Imm16) (s : State) : Res :=
  branch (s.reg rs != s.reg rt) false (branchTarget s imm) s

/-- BEQL (R572): taken when `rs` equals `rt`, else the slot is nullified. -/
def execBeql (rs rt : Reg) (imm : Imm16) (s : State) : Res :=
  branch (s.reg rs == s.reg rt) true (branchTarget s imm) s

/-- BNEL (R573): taken when `rs` differs from `rt`, else the slot is nullified. -/
def execBnel (rs rt : Reg) (imm : Imm16) (s : State) : Res :=
  branch (s.reg rs != s.reg rt) true (branchTarget s imm) s

/-- BLEZ (R566): taken when `rs` is 0 or negative. -/
def execBlez (rs : Reg) (imm : Imm16) (s : State) : Res :=
  branch ((s.reg rs).sle 0) false (branchTarget s imm) s

/-- BGTZ (R567): taken when `rs` is positive. -/
def execBgtz (rs : Reg) (imm : Imm16) (s : State) : Res :=
  branch ((0 : Word).slt (s.reg rs)) false (branchTarget s imm) s

/-- BLEZL (R574): taken when `rs` is 0 or negative, else the slot is nullified. -/
def execBlezl (rs : Reg) (imm : Imm16) (s : State) : Res :=
  branch ((s.reg rs).sle 0) true (branchTarget s imm) s

/-- BGTZL (R575): taken when `rs` is positive, else the slot is nullified. -/
def execBgtzl (rs : Reg) (imm : Imm16) (s : State) : Res :=
  branch ((0 : Word).slt (s.reg rs)) true (branchTarget s imm) s

/-- BLTZ (R568): taken when `rs` is negative. -/
def execBltz (rs : Reg) (imm : Imm16) (s : State) : Res :=
  branch ((s.reg rs).msb) false (branchTarget s imm) s

/-- BGEZ (R569): taken when `rs` is 0 or positive. -/
def execBgez (rs : Reg) (imm : Imm16) (s : State) : Res :=
  branch (!(s.reg rs).msb) false (branchTarget s imm) s

/-- BLTZAL (R570): links; taken when `rs` is negative. -/
def execBltzal (rs : Reg) (imm : Imm16) (s : State) : Res :=
  branch ((s.reg rs).msb) false (branchTarget s imm) (link 31 s)

/-- BGEZAL (R571): links; taken when `rs` is 0 or positive. -/
def execBgezal (rs : Reg) (imm : Imm16) (s : State) : Res :=
  branch (!(s.reg rs).msb) false (branchTarget s imm) (link 31 s)

/-- BLTZL (R576): taken when `rs` is negative, else the slot is nullified. -/
def execBltzl (rs : Reg) (imm : Imm16) (s : State) : Res :=
  branch ((s.reg rs).msb) true (branchTarget s imm) s

/-- BGEZL (R577): taken when `rs` is 0 or positive, else the slot is nullified. -/
def execBgezl (rs : Reg) (imm : Imm16) (s : State) : Res :=
  branch (!(s.reg rs).msb) true (branchTarget s imm) s

/-- BLTZALL (R578): links; taken when `rs` is negative, else the slot is nullified. -/
def execBltzall (rs : Reg) (imm : Imm16) (s : State) : Res :=
  branch ((s.reg rs).msb) true (branchTarget s imm) (link 31 s)

/-- BGEZALL (R579): links; taken when `rs` is 0 or positive, else the slot is nullified. -/
def execBgezall (rs : Reg) (imm : Imm16) (s : State) : Res :=
  branch (!(s.reg rs).msb) true (branchTarget s imm) (link 31 s)

end Sys2Proof.Machine
end

