-- ==== Sys2Proof/Machine/Fp.lean ====
section
/-! DEFINITION. Floating-point arithmetic on bit patterns: exact values in Nat and Int, one rounding, and
the exception conditions of 47_fpu.md R702 to R716. -/

namespace Sys2Proof.Machine

/-- The two floating formats (R701). -/
inductive Fmt where
  | single
  | double
deriving DecidableEq, Repr

/-- Fraction bits (R701, R702). -/
def fracBits : Fmt → Nat
  | .single => 23
  | .double => 52
/-- The exponent field of infinities and NaNs (R702). -/
def expMax : Fmt → Nat
  | .single => 255
  | .double => 2047
/-- The exponent bias (R701). -/
def expBias : Fmt → Nat
  | .single => 127
  | .double => 1023
/-- The sign bit's place (R701). -/
def signBit : Fmt → Nat
  | .single => 31
  | .double => 63

/-- A pattern from sign, exponent field and fraction (R701). -/
def packBits (f : Fmt) (neg : Bool) (e m : Nat) : Nat :=
  (if neg then 2 ^ signBit f else 0) + e * 2 ^ fracBits f + m

/-- What a pattern stands for (R702): a finite value is `(-1)^neg * m * 2^e`. -/
inductive FpVal where
  | fin (neg : Bool) (m : Nat) (e : Int)
  | inf (neg : Bool)
  | qnan
  | snan
deriving DecidableEq, Repr

/-- The sign of a pattern. -/
def fpNeg (f : Fmt) (b : Nat) : Bool := b / 2 ^ signBit f % 2 == 1
/-- The exponent field of a pattern. -/
def fpExp (f : Fmt) (b : Nat) : Nat := b / 2 ^ fracBits f % (expMax f + 1)
/-- The fraction field of a pattern. -/
def fpFrac (f : Fmt) (b : Nat) : Nat := b % 2 ^ fracBits f

/-- The value of a pattern (R702); a set top fraction bit makes a NaN signaling. -/
def fpVal (f : Fmt) (b : Nat) : FpVal :=
  let s := fpNeg f b
  let e := fpExp f b
  let m := fpFrac f b
  if e = expMax f then
    if m = 0 then .inf s
    else if 2 ^ (fracBits f - 1) ≤ m then .snan else .qnan
  else if e = 0 then .fin s m (1 - (expBias f : Int) - fracBits f)
  else .fin s (2 ^ fracBits f + m) ((e : Int) - expBias f - fracBits f)

/-- A subnormal pattern (R702). -/
def fpSubnormal (f : Fmt) (b : Nat) : Bool := fpExp f b == 0 && fpFrac f b != 0
/-- A quiet NaN pattern (R702). -/
def fpQuiet (f : Fmt) (b : Nat) : Bool := fpVal f b == .qnan
/-- A signaling NaN pattern (R702). -/
def fpSignaling (f : Fmt) (b : Nat) : Bool := fpVal f b == .snan
/-- A NaN pattern (R702). -/
def fpNan (f : Fmt) (b : Nat) : Bool := fpQuiet f b || fpSignaling f b
/-- The value is 0. -/
def valZero : FpVal → Bool
  | .fin _ m _ => m == 0
  | _ => false

/-- The default quiet NaN (R702, D24). -/
def defaultNan : Fmt → Nat
  | .single => 0x7FBFFFFF
  | .double => 0x7FF7FFFFFFFFFFFF
/-- An infinity. -/
def infBits (f : Fmt) (neg : Bool) : Nat := packBits f neg (expMax f) 0
/-- The largest finite number (R707). -/
def maxBits (f : Fmt) (neg : Bool) : Nat := packBits f neg (expMax f - 1) (2 ^ fracBits f - 1)
/-- The smallest normal number (R709). -/
def minNormalBits (f : Fmt) (neg : Bool) : Nat := packBits f neg 1 0
/-- A zero. -/
def zeroBits (f : Fmt) (neg : Bool) : Nat := packBits f neg 0 0

/-- The rounding modes (R713). -/
inductive Rm where
  | nearest
  | zero
  | up
  | down
deriving DecidableEq, Repr

/-- `FCR31.RM` (R713). -/
def rmOf (rm : BitVec 2) : Rm :=
  match rm.toNat with
  | 0 => .nearest
  | 1 => .zero
  | 2 => .up
  | _ => .down

/-- What an operation reads of FCR31: the mode, the U and I enables, FS (R708, R713). -/
structure FpCtl where
  rm : Rm
  enU : Bool
  enI : Bool
  fs : Bool
deriving DecidableEq, Repr

/-- The control an operation runs under. -/
def fpCtl (f : BitVec 32) : FpCtl :=
  { rm := rmOf (fcrRm f), enU := (fcrEnables f).getLsbD 1, enI := (fcrEnables f).getLsbD 0, fs := fcrFs f }

/-- Causes and candidate result of one operation (R703 step 2). -/
structure FpOut where
  causes : Causes
  bits : Nat
deriving DecidableEq, Repr

/-- `q` units and a remainder `r` out of `2^k`, with something below when `sticky`: does the mode round
the magnitude up (R713)? -/
def roundsUp (rm : Rm) (neg : Bool) (q r k : Nat) (sticky : Bool) : Bool :=
  match rm with
  | .nearest => 2 ^ k < 2 * r || (2 * r == 2 ^ k && (sticky || q % 2 == 1))
  | .zero => false
  | .up => !neg && (r != 0 || sticky)
  | .down => neg && (r != 0 || sticky)

/-- The overflow result by mode (R707). -/
def overflowBits (f : Fmt) (rm : Rm) (neg : Bool) : Nat :=
  match rm with
  | .nearest => infBits f neg
  | .zero => maxBits f neg
  | .up => if neg then maxBits f true else infBits f false
  | .down => if neg then infBits f true else maxBits f false

/-- The underflow result by mode (R709). -/
def underflowBits (f : Fmt) (rm : Rm) (neg : Bool) : Nat :=
  match rm with
  | .nearest => zeroBits f neg
  | .zero => zeroBits f neg
  | .up => if neg then zeroBits f true else minNormalBits f false
  | .down => if neg then minNormalBits f true else zeroBits f false

/-- Round the exact non-zero magnitude `m * 2^e`, or a little more when `sticky` (then `m` has at least
two bits below the precision), and find O, U, I or E (R707 to R710). -/
def roundPack (f : Fmt) (c : FpCtl) (neg : Bool) (m : Nat) (e : Int) (sticky : Bool) : FpOut :=
  let len := Nat.log2 m + 1
  let k := len - (fracBits f + 1)
  let m1 := m * 2 ^ (fracBits f + 1 - len)
  let e1 := e - ((fracBits f + 1 - len : Nat) : Int)
  let q := m1 / 2 ^ k
  let r := m1 % 2 ^ k
  let inexact := r != 0 || sticky
  let q1 := if roundsUp c.rm neg q r k sticky then q + 1 else q
  let carry := q1 == 2 ^ (fracBits f + 1)
  let q2 := if carry then 2 ^ fracBits f else q1
  let field : Int := e1 + k + (if carry then 1 else 0) + expBias f + fracBits f
  if (expMax f : Int) ≤ field then { causes := causeO ||| causeI, bits := overflowBits f c.rm neg }
  else if field ≤ 0 then
    if c.enU || c.enI || !c.fs then { causes := causeE, bits := 0 }
    else { causes := causeU ||| causeI, bits := underflowBits f c.rm neg }
  else { causes := if inexact then causeI else 0
         bits := packBits f neg field.toNat (q2 - 2 ^ fracBits f) }

/-- An invalid operation with its default result (R705). -/
def fpInvalid (f : Fmt) : FpOut := { causes := causeV, bits := defaultNan f }
/-- A result without any condition. -/
def fpExact (b : Nat) : FpOut := { causes := 0, bits := b }

/-- The operand conditions, E before V (R704, R705 f, D25). -/
def operandCauses (f : Fmt) (ops : List Nat) : Option FpOut :=
  if ops.any (fun b => fpSubnormal f b || fpQuiet f b) then some { causes := causeE, bits := 0 }
  else if ops.any (fpSignaling f) then some (fpInvalid f)
  else none

/-- The sign of an exact zero sum of operands with the given signs (R716). -/
def zeroSumSign (rm : Rm) (n1 n2 : Bool) : Bool := if n1 == n2 then n1 else rm == .down

/-- The signed number `(-1)^neg * m`. -/
def signedMag (neg : Bool) (m : Nat) : Int := if neg then -(m : Int) else m

/-- The rounded sum of two values (R705 a, R716, R721). -/
def addVals (f : Fmt) (c : FpCtl) (a b : FpVal) : FpOut :=
  match a, b with
  | .inf n, .inf n' => if n == n' then fpExact (infBits f n) else fpInvalid f
  | .inf n, _ => fpExact (infBits f n)
  | _, .inf n => fpExact (infBits f n)
  | .fin n1 m1 e1, .fin n2 m2 e2 =>
    let e := min e1 e2
    let t := signedMag n1 (m1 * 2 ^ (e1 - e).toNat) + signedMag n2 (m2 * 2 ^ (e2 - e).toNat)
    if t = 0 then fpExact (zeroBits f (zeroSumSign c.rm n1 n2))
    else roundPack f c (decide (t < 0)) t.natAbs e false
  | _, _ => fpInvalid f

/-- A value with its sign inverted. -/
def negVal : FpVal → FpVal
  | .fin n m e => .fin (!n) m e
  | .inf n => .inf (!n)
  | v => v

/-- The exact product of two values; none is 0 times infinity (R705 b). -/
def mulExact (a b : FpVal) : Option FpVal :=
  match a, b with
  | .fin n1 m1 e1, .fin n2 m2 e2 => some (.fin (n1 != n2) (m1 * m2) (e1 + e2))
  | .inf n1, .inf n2 => some (.inf (n1 != n2))
  | .inf n1, .fin n2 m _ => if m = 0 then none else some (.inf (n1 != n2))
  | .fin n1 m _, .inf n2 => if m = 0 then none else some (.inf (n1 != n2))
  | _, _ => none

/-- A value rounded into a format (R740). -/
def roundVal (f : Fmt) (c : FpCtl) (v : FpVal) : FpOut :=
  match v with
  | .fin n m e => if m = 0 then fpExact (zeroBits f n) else roundPack f c n m e false
  | .inf n => fpExact (infBits f n)
  | _ => fpInvalid f

/-- ADD (R721). -/
def fpAdd (f : Fmt) (c : FpCtl) (a b : Nat) : FpOut :=
  match operandCauses f [a, b] with
  | some o => o
  | none => addVals f c (fpVal f a) (fpVal f b)

/-- SUB (R722). -/
def fpSub (f : Fmt) (c : FpCtl) (a b : Nat) : FpOut :=
  match operandCauses f [a, b] with
  | some o => o
  | none => addVals f c (fpVal f a) (negVal (fpVal f b))

/-- MUL (R723). -/
def fpMul (f : Fmt) (c : FpCtl) (a b : Nat) : FpOut :=
  match operandCauses f [a, b] with
  | some o => o
  | none =>
    match mulExact (fpVal f a) (fpVal f b) with
    | none => fpInvalid f
    | some v => roundVal f c v

/-- The rounded quotient of two values (R705 c, R706, R724). -/
def divVals (f : Fmt) (c : FpCtl) (a b : FpVal) : FpOut :=
  match a, b with
  | .inf _, .inf _ => fpInvalid f
  | .inf n1, .fin n2 _ _ => fpExact (infBits f (n1 != n2))
  | .fin n1 _ _, .inf n2 => fpExact (zeroBits f (n1 != n2))
  | .fin n1 m1 e1, .fin n2 m2 e2 =>
    if m2 = 0 then
      if m1 = 0 then fpInvalid f else { causes := causeZ, bits := infBits f (n1 != n2) }
    else if m1 = 0 then fpExact (zeroBits f (n1 != n2))
    else
      let k := fracBits f + 4
      roundPack f c (n1 != n2) (m1 * 2 ^ k / m2) (e1 - e2 - k) (m1 * 2 ^ k % m2 != 0)
  | _, _ => fpInvalid f

/-- DIV (R724). -/
def fpDiv (f : Fmt) (c : FpCtl) (a b : Nat) : FpOut :=
  match operandCauses f [a, b] with
  | some o => o
  | none => divVals f c (fpVal f a) (fpVal f b)

/-- The integer square root, by bits from `2^(k-1)` down. -/
def isqrtFrom (n : Nat) : Nat → Nat → Nat
  | 0, r => r
  | k + 1, r => isqrtFrom n k (if (r + 2 ^ k) * (r + 2 ^ k) ≤ n then r + 2 ^ k else r)

/-- The rounded square root of a value (R705 g, R716, R725). -/
def sqrtVal (f : Fmt) (c : FpCtl) (v : FpVal) : FpOut :=
  match v with
  | .inf false => fpExact (infBits f false)
  | .fin n m e =>
    if m = 0 then fpExact (zeroBits f n)
    else if n then fpInvalid f
    else
      let m1 := if e % 2 = 0 then m * 2 ^ (2 * fracBits f) else m * 2 ^ (2 * fracBits f + 1)
      let e1 := if e % 2 = 0 then e - 2 * fracBits f else e - 2 * fracBits f - 1
      let r := isqrtFrom m1 (2 * fracBits f) 0
      roundPack f c false r (e1 / 2) (r * r != m1)
  | _ => fpInvalid f

/-- SQRT (R725). -/
def fpSqrt (f : Fmt) (c : FpCtl) (a : Nat) : FpOut :=
  match operandCauses f [a] with
  | some o => o
  | none => sqrtVal f c (fpVal f a)

/-- ABS (R726). -/
def fpAbs (f : Fmt) (a : Nat) : FpOut :=
  match operandCauses f [a] with
  | some o => o
  | none => fpExact (a % 2 ^ signBit f)

/-- NEG (R728). -/
def fpNegate (f : Fmt) (a : Nat) : FpOut :=
  match operandCauses f [a] with
  | some o => o
  | none => fpExact (a ^^^ 2 ^ signBit f)

/-- `(a * b) + c` or `(a * b) - c` with one rounding (R780). -/
def fpMadd (f : Fmt) (ctl : FpCtl) (sub : Bool) (a b c : Nat) : FpOut :=
  match operandCauses f [a, b, c] with
  | some o => o
  | none =>
    match mulExact (fpVal f a) (fpVal f b) with
    | none => fpInvalid f
    | some v => addVals f ctl v (if sub then negVal (fpVal f c) else fpVal f c)

/-- The N forms: the sign inverted after rounding, a generated NaN kept (R780, D33). -/
def fpNegResult (f : Fmt) (o : FpOut) : FpOut :=
  if fpNan f o.bits then o else { o with bits := o.bits ^^^ 2 ^ signBit f }

/-- The magnitude `m * 2^e` rounded to an integer, and whether that was inexact (R729). -/
def roundMag (rm : Rm) (neg : Bool) (m : Nat) (e : Int) : Nat × Bool :=
  if 0 ≤ e then (m * 2 ^ e.toNat, false)
  else
    let k := (-e).toNat
    let q := m / 2 ^ k
    let r := m % 2 ^ k
    (if roundsUp rm neg q r k false then q + 1 else q, r != 0)

/-- The invalid result of a conversion to a `w`-bit integer (R714). -/
def intInvalid (w : Nat) (neg : Bool) : FpOut :=
  { causes := causeV, bits := if neg then 2 ^ (w - 1) else 2 ^ (w - 1) - 1 }

/-- A floating pattern converted to a `w`-bit integer in a mode (R714, R729). -/
def fpToInt (f : Fmt) (w : Nat) (rm : Rm) (a : Nat) : FpOut :=
  if fpSubnormal f a then { causes := causeE, bits := 0 }
  else match fpVal f a with
  | .fin n m e =>
    let r := roundMag rm n m e
    if (if n then r.1 ≤ 2 ^ (w - 1) else r.1 < 2 ^ (w - 1)) then
      { causes := if r.2 then causeI else 0, bits := if n then (2 ^ w - r.1) % 2 ^ w else r.1 }
    else intInvalid w n
  | .inf n => intInvalid w n
  | _ => intInvalid w (fpNeg f a)

/-- A signed integer converted to a floating pattern (R740, R741). -/
def intToFp (f : Fmt) (c : FpCtl) (i : Int) : FpOut :=
  roundVal f c (.fin (decide (i < 0)) i.natAbs 0)

/-- One floating format converted to the other (R740, R741). -/
def fpToFp (src dst : Fmt) (c : FpCtl) (a : Nat) : FpOut :=
  if fpSubnormal src a || fpQuiet src a then { causes := causeE, bits := 0 }
  else if fpSignaling src a then fpInvalid dst
  else roundVal dst c (fpVal src a)

/-- The order of two values that are not NaNs: less, equal (R716, R745). -/
def fpOrder (a b : FpVal) : Bool × Bool :=
  match a, b with
  | .inf n, .inf n' => (n && !n', n == n')
  | .inf n, _ => (n, false)
  | _, .inf n => (!n, false)
  | .fin n1 m1 e1, .fin n2 m2 e2 =>
    let e := min e1 e2
    let x := signedMag n1 (m1 * 2 ^ (e1 - e).toNat)
    let y := signedMag n2 (m2 * 2 ^ (e2 - e).toNat)
    (decide (x < y), decide (x = y))
  | _, _ => (false, false)

/-- A compare: whether V arises, and the predicate (R745). -/
def fpCompare (f : Fmt) (cond : BitVec 4) (a b : Nat) : Bool × Bool :=
  let un := fpNan f a || fpNan f b
  let o := if un then (false, false) else fpOrder (fpVal f a) (fpVal f b)
  (fpSignaling f a || fpSignaling f b || (cond.getLsbD 3 && un),
   (cond.getLsbD 2 && o.1) || (cond.getLsbD 1 && o.2) || (cond.getLsbD 0 && un))

/-- The lower single of a PS operand (48_fpu_ext.md R791). -/
def psLo (x : Word) : Nat := (lo32 x).toNat
/-- The upper single of a PS operand (R791). -/
def psHi (x : Word) : Nat := (hi32 x).toNat

/-- A PS result from its two lanes: causes ORed (48_fpu_ext.md R793). -/
def psOut (hi lo : FpOut) : FpOut :=
  { causes := hi.causes ||| lo.causes, bits := hi.bits * 2 ^ 32 + lo.bits }

/-- The end of a floating operation (47_fpu.md R703 steps 3 to 5, R711): Causes are written; a trap
leaves the rest, else Flags gather and the result is written. -/
def fpFinish (s : State) (o : FpOut) (write : State → State) : Res :=
  let f := fcrSetCauses s.fcr31 o.causes
  if fcrTraps f o.causes then raise .fpe { s with fcr31 := f }
  else .next (advance (write { s with fcr31 := fcrAddFlags f o.causes }))

/-- A 32-bit result into `fd` (R717). -/
def fpFinishS (s : State) (fd : Reg) (o : FpOut) : Res :=
  fpFinish s o fun t => t.setFprS fd (BitVec.ofNat 32 o.bits)

/-- A 64-bit result into `fd` (R717). -/
def fpFinishD (s : State) (fd : Reg) (o : FpOut) : Res :=
  fpFinish s o fun t => t.setFprAt fd (BitVec.ofNat 64 o.bits)

/-- The end of an S or D compare: V may trap, else CC0 is written (R745). -/
def fpFinishC (s : State) (r : Bool × Bool) : Res :=
  fpFinish s { causes := if r.1 then causeV else 0, bits := 0 }
    fun t => { t with fcr31 := fcrSetCc0 t.fcr31 r.2 }

/-- The end of a PS compare: CC0 the lower half's, CC1 the upper half's (48_fpu_ext.md R801). -/
def fpFinishCPs (s : State) (lo hi : Bool × Bool) : Res :=
  fpFinish s { causes := if lo.1 || hi.1 then causeV else 0, bits := 0 }
    fun t => { t with fcr31 := fcrSetCc1 (fcrSetCc0 t.fcr31 lo.2) hi.2 }

/-- The S operand of a register, as a number (R717). -/
def State.opS (s : State) (r : Reg) : Nat := (s.fprS r).toNat
/-- The D operand of a register, as a number (R717). -/
def State.opD (s : State) (r : Reg) : Nat := (s.fprAt r).toNat
/-- The control of the next operation. -/
def State.fpCtl (s : State) : FpCtl := Machine.fpCtl s.fcr31

/-- A binary S operation. -/
def binS (op : Fmt → FpCtl → Nat → Nat → FpOut) (ft fs fd : Reg) (s : State) : Res :=
  withCp1 s (fpFinishS s fd (op .single s.fpCtl (s.opS fs) (s.opS ft)))

/-- A binary D operation. -/
def binD (op : Fmt → FpCtl → Nat → Nat → FpOut) (ft fs fd : Reg) (s : State) : Res :=
  withCp1 s (withDouble s [fs, ft, fd] (fpFinishD s fd (op .double s.fpCtl (s.opD fs) (s.opD ft))))

/-- A binary PS operation (48_fpu_ext.md R793). -/
def binPs (op : Fmt → FpCtl → Nat → Nat → FpOut) (ft fs fd : Reg) (s : State) : Res :=
  let a := s.fprAt fs
  let b := s.fprAt ft
  withCp1 s (withDouble s [fs, ft, fd] (fpFinishD s fd
    (psOut (op .single s.fpCtl (psHi a) (psHi b)) (op .single s.fpCtl (psLo a) (psLo b)))))

/-- A unary operation from S to a 32-bit result. -/
def unSS (op : FpCtl → Nat → FpOut) (fs fd : Reg) (s : State) : Res :=
  withCp1 s (fpFinishS s fd (op s.fpCtl (s.opS fs)))

/-- A unary operation from a 32-bit operand to a 64-bit result. -/
def unSD (op : FpCtl → Nat → FpOut) (fs fd : Reg) (s : State) : Res :=
  withCp1 s (withDouble s [fd] (fpFinishD s fd (op s.fpCtl (s.opS fs))))

/-- A unary operation from a 64-bit operand to a 32-bit result. -/
def unDS (op : FpCtl → Nat → FpOut) (fs fd : Reg) (s : State) : Res :=
  withCp1 s (withDouble s [fs] (fpFinishS s fd (op s.fpCtl (s.opD fs))))

/-- A unary operation from a 64-bit operand to a 64-bit result. -/
def unDD (op : FpCtl → Nat → FpOut) (fs fd : Reg) (s : State) : Res :=
  withCp1 s (withDouble s [fs, fd] (fpFinishD s fd (op s.fpCtl (s.opD fs))))

/-- A unary PS operation (48_fpu_ext.md R793). -/
def unPs (op : FpCtl → Nat → FpOut) (fs fd : Reg) (s : State) : Res :=
  let a := s.fprAt fs
  withCp1 s (withDouble s [fs, fd] (fpFinishD s fd
    (psOut (op s.fpCtl (psHi a)) (op s.fpCtl (psLo a)))))

/-- An S multiply-add: the destination is also the addend (R780). -/
def maddS (sub neg : Bool) (ft fs fd : Reg) (s : State) : Res :=
  let o := fpMadd .single s.fpCtl sub (s.opS fs) (s.opS ft) (s.opS fd)
  withCp1 s (fpFinishS s fd (if neg then fpNegResult .single o else o))

/-- A D multiply-add (R780). -/
def maddD (sub neg : Bool) (ft fs fd : Reg) (s : State) : Res :=
  let o := fpMadd .double s.fpCtl sub (s.opD fs) (s.opD ft) (s.opD fd)
  withCp1 s (withDouble s [fs, ft, fd] (fpFinishD s fd (if neg then fpNegResult .double o else o)))

/-- A PS multiply-add (48_fpu_ext.md R818). -/
def maddPs (sub neg : Bool) (ft fs fd : Reg) (s : State) : Res :=
  let a := s.fprAt fs
  let b := s.fprAt ft
  let c := s.fprAt fd
  let hi := fpMadd .single s.fpCtl sub (psHi a) (psHi b) (psHi c)
  let lo := fpMadd .single s.fpCtl sub (psLo a) (psLo b) (psLo c)
  withCp1 s (withDouble s [fs, ft, fd] (fpFinishD s fd
    (if neg then psOut (fpNegResult .single hi) (fpNegResult .single lo) else psOut hi lo)))

/-- An S compare (R745). -/
def compareS (cond : BitVec 4) (ft fs : Reg) (s : State) : Res :=
  withCp1 s (fpFinishC s (fpCompare .single cond (s.opS fs) (s.opS ft)))

/-- A D compare (R745). -/
def compareD (cond : BitVec 4) (ft fs : Reg) (s : State) : Res :=
  withCp1 s (withDouble s [fs, ft] (fpFinishC s (fpCompare .double cond (s.opD fs) (s.opD ft))))

/-- A PS compare (48_fpu_ext.md R801). -/
def comparePs (cond : BitVec 4) (ft fs : Reg) (s : State) : Res :=
  let a := s.fprAt fs
  let b := s.fprAt ft
  withCp1 s (withDouble s [fs, ft] (fpFinishCPs s
    (fpCompare .single cond (psLo a) (psLo b)) (fpCompare .single cond (psHi a) (psHi b))))

end Sys2Proof.Machine
end

