-- ==== Sys2Proof/Machine/FpuArith.lean ====
section
/-! DEFINITION. Floating-point arithmetic in S, D and PS, and the multiply-add family (47_fpu.md, 48_fpu_ext.md). -/

namespace Sys2Proof.Machine

/-- `Status.NOFDIV` (11_cp0_registers.md R184). -/
def State.noDivide (s : State) : Bool := s.cp0.status.getLsbD s.params.nofdivBit
/-- `Status.NOFSQR` (11_cp0_registers.md R184). -/
def State.noSqrt (s : State) : Bool := s.cp0.status.getLsbD s.params.nofsqrBit

/-- ADD.S (R721): the rounded sum. -/
def execAddS (ft fs fd : Reg) (s : State) : Res :=
  binS fpAdd ft fs fd s

/-- ADD.D (R721): the rounded sum. -/
def execAddD (ft fs fd : Reg) (s : State) : Res :=
  binD fpAdd ft fs fd s

/-- ADD.PS (R795): the rounded sum of each half. -/
def execAddPs (ft fs fd : Reg) (s : State) : Res :=
  binPs fpAdd ft fs fd s

/-- SUB.S (R722): the rounded difference. -/
def execSubS (ft fs fd : Reg) (s : State) : Res :=
  binS fpSub ft fs fd s

/-- SUB.D (R722): the rounded difference. -/
def execSubD (ft fs fd : Reg) (s : State) : Res :=
  binD fpSub ft fs fd s

/-- SUB.PS (R796): the rounded difference of each half. -/
def execSubPs (ft fs fd : Reg) (s : State) : Res :=
  binPs fpSub ft fs fd s

/-- MUL.S (R723): the rounded product. -/
def execMulS (ft fs fd : Reg) (s : State) : Res :=
  binS fpMul ft fs fd s

/-- MUL.D (R723): the rounded product. -/
def execMulD (ft fs fd : Reg) (s : State) : Res :=
  binD fpMul ft fs fd s

/-- MUL.PS (R797): the rounded product of each half. -/
def execMulPs (ft fs fd : Reg) (s : State) : Res :=
  binPs fpMul ft fs fd s

/-- DIV.S (R724): the rounded quotient; refused when the divide unit is disabled (R715). -/
def execDivS (ft fs fd : Reg) (s : State) : Res :=
  withCp1 s (if s.noDivide then .refused .fpUnitDisabled else binS fpDiv ft fs fd s)

/-- DIV.D (R724): the rounded quotient; refused when the divide unit is disabled (R715). -/
def execDivD (ft fs fd : Reg) (s : State) : Res :=
  withCp1 s (if s.noDivide then .refused .fpUnitDisabled else binD fpDiv ft fs fd s)

/-- SQRT.S (R725): the rounded square root; refused when the unit is disabled (R715). -/
def execSqrtS (fs fd : Reg) (s : State) : Res :=
  withCp1 s (if s.noSqrt then .refused .fpUnitDisabled else unSS (fpSqrt .single) fs fd s)

/-- SQRT.D (R725): the rounded square root; refused when the unit is disabled (R715). -/
def execSqrtD (fs fd : Reg) (s : State) : Res :=
  withCp1 s (if s.noSqrt then .refused .fpUnitDisabled else unDD (fpSqrt .double) fs fd s)

/-- ABS.S (R726): the sign cleared. -/
def execAbsS (fs fd : Reg) (s : State) : Res :=
  unSS (fun _ => fpAbs .single) fs fd s

/-- ABS.D (R726): the sign cleared. -/
def execAbsD (fs fd : Reg) (s : State) : Res :=
  unDD (fun _ => fpAbs .double) fs fd s

/-- ABS.PS (R798): the sign cleared in each half. -/
def execAbsPs (fs fd : Reg) (s : State) : Res :=
  unPs (fun _ => fpAbs .single) fs fd s

/-- NEG.S (R728): the sign inverted. -/
def execNegS (fs fd : Reg) (s : State) : Res :=
  unSS (fun _ => fpNegate .single) fs fd s

/-- NEG.D (R728): the sign inverted. -/
def execNegD (fs fd : Reg) (s : State) : Res :=
  unDD (fun _ => fpNegate .double) fs fd s

/-- NEG.PS (R799): the sign inverted in each half. -/
def execNegPs (fs fd : Reg) (s : State) : Res :=
  unPs (fun _ => fpNegate .single) fs fd s

/-- MADD.S (R781): `(fs * ft) + fd` with one rounding. -/
def execMaddS (ft fs fd : Reg) (s : State) : Res :=
  maddS false false ft fs fd s

/-- MADD.D (R781): `(fs * ft) + fd` with one rounding. -/
def execMaddD (ft fs fd : Reg) (s : State) : Res :=
  maddD false false ft fs fd s

/-- MADD.PS (R818): `(fs * ft) + fd` with one rounding in each half. -/
def execMaddPs (ft fs fd : Reg) (s : State) : Res :=
  maddPs false false ft fs fd s

/-- MSUB.S (R782): `(fs * ft) - fd` with one rounding. -/
def execMsubS (ft fs fd : Reg) (s : State) : Res :=
  maddS true false ft fs fd s

/-- MSUB.D (R782): `(fs * ft) - fd` with one rounding. -/
def execMsubD (ft fs fd : Reg) (s : State) : Res :=
  maddD true false ft fs fd s

/-- MSUB.PS (R819): `(fs * ft) - fd` with one rounding in each half. -/
def execMsubPs (ft fs fd : Reg) (s : State) : Res :=
  maddPs true false ft fs fd s

/-- NMADD.S (R783): `-((fs * ft) + fd)` with one rounding. -/
def execNmaddS (ft fs fd : Reg) (s : State) : Res :=
  maddS false true ft fs fd s

/-- NMADD.D (R783): `-((fs * ft) + fd)` with one rounding. -/
def execNmaddD (ft fs fd : Reg) (s : State) : Res :=
  maddD false true ft fs fd s

/-- NMADD.PS (R820): `-((fs * ft) + fd)` with one rounding in each half. -/
def execNmaddPs (ft fs fd : Reg) (s : State) : Res :=
  maddPs false true ft fs fd s

/-- NMSUB.S (R784): `-((fs * ft) - fd)` with one rounding. -/
def execNmsubS (ft fs fd : Reg) (s : State) : Res :=
  maddS true true ft fs fd s

/-- NMSUB.D (R784): `-((fs * ft) - fd)` with one rounding. -/
def execNmsubD (ft fs fd : Reg) (s : State) : Res :=
  maddD true true ft fs fd s

/-- NMSUB.PS (R821): `-((fs * ft) - fd)` with one rounding in each half. -/
def execNmsubPs (ft fs fd : Reg) (s : State) : Res :=
  maddPs true true ft fs fd s

end Sys2Proof.Machine
end

