-- ==== Sys2Proof/Machine/FpuCompare.lean ====
section
/-! DEFINITION. Floating-point compares (47_fpu.md R745 to R761, 48_fpu_ext.md R801 to R817). -/

namespace Sys2Proof.Machine

/-- C.F.S (R746): condition 0. -/
def execCFS (ft fs : Reg) (s : State) : Res :=
  compareS 0 ft fs s

/-- C.F.D (R746): condition 0. -/
def execCFD (ft fs : Reg) (s : State) : Res :=
  compareD 0 ft fs s

/-- C.F.PS (R802): condition 0. -/
def execCFPs (ft fs : Reg) (s : State) : Res :=
  comparePs 0 ft fs s

/-- C.UN.S (R747): condition 1. -/
def execCUnS (ft fs : Reg) (s : State) : Res :=
  compareS 1 ft fs s

/-- C.UN.D (R747): condition 1. -/
def execCUnD (ft fs : Reg) (s : State) : Res :=
  compareD 1 ft fs s

/-- C.UN.PS (R803): condition 1. -/
def execCUnPs (ft fs : Reg) (s : State) : Res :=
  comparePs 1 ft fs s

/-- C.EQ.S (R748): condition 2. -/
def execCEqS (ft fs : Reg) (s : State) : Res :=
  compareS 2 ft fs s

/-- C.EQ.D (R748): condition 2. -/
def execCEqD (ft fs : Reg) (s : State) : Res :=
  compareD 2 ft fs s

/-- C.EQ.PS (R804): condition 2. -/
def execCEqPs (ft fs : Reg) (s : State) : Res :=
  comparePs 2 ft fs s

/-- C.UEQ.S (R749): condition 3. -/
def execCUeqS (ft fs : Reg) (s : State) : Res :=
  compareS 3 ft fs s

/-- C.UEQ.D (R749): condition 3. -/
def execCUeqD (ft fs : Reg) (s : State) : Res :=
  compareD 3 ft fs s

/-- C.UEQ.PS (R805): condition 3. -/
def execCUeqPs (ft fs : Reg) (s : State) : Res :=
  comparePs 3 ft fs s

/-- C.OLT.S (R750): condition 4. -/
def execCOltS (ft fs : Reg) (s : State) : Res :=
  compareS 4 ft fs s

/-- C.OLT.D (R750): condition 4. -/
def execCOltD (ft fs : Reg) (s : State) : Res :=
  compareD 4 ft fs s

/-- C.OLT.PS (R806): condition 4. -/
def execCOltPs (ft fs : Reg) (s : State) : Res :=
  comparePs 4 ft fs s

/-- C.ULT.S (R751): condition 5. -/
def execCUltS (ft fs : Reg) (s : State) : Res :=
  compareS 5 ft fs s

/-- C.ULT.D (R751): condition 5. -/
def execCUltD (ft fs : Reg) (s : State) : Res :=
  compareD 5 ft fs s

/-- C.ULT.PS (R807): condition 5. -/
def execCUltPs (ft fs : Reg) (s : State) : Res :=
  comparePs 5 ft fs s

/-- C.OLE.S (R752): condition 6. -/
def execCOleS (ft fs : Reg) (s : State) : Res :=
  compareS 6 ft fs s

/-- C.OLE.D (R752): condition 6. -/
def execCOleD (ft fs : Reg) (s : State) : Res :=
  compareD 6 ft fs s

/-- C.OLE.PS (R808): condition 6. -/
def execCOlePs (ft fs : Reg) (s : State) : Res :=
  comparePs 6 ft fs s

/-- C.ULE.S (R753): condition 7. -/
def execCUleS (ft fs : Reg) (s : State) : Res :=
  compareS 7 ft fs s

/-- C.ULE.D (R753): condition 7. -/
def execCUleD (ft fs : Reg) (s : State) : Res :=
  compareD 7 ft fs s

/-- C.ULE.PS (R809): condition 7. -/
def execCUlePs (ft fs : Reg) (s : State) : Res :=
  comparePs 7 ft fs s

/-- C.SF.S (R754): condition 8. -/
def execCSfS (ft fs : Reg) (s : State) : Res :=
  compareS 8 ft fs s

/-- C.SF.D (R754): condition 8. -/
def execCSfD (ft fs : Reg) (s : State) : Res :=
  compareD 8 ft fs s

/-- C.SF.PS (R810): condition 8. -/
def execCSfPs (ft fs : Reg) (s : State) : Res :=
  comparePs 8 ft fs s

/-- C.NGLE.S (R755): condition 9. -/
def execCNgleS (ft fs : Reg) (s : State) : Res :=
  compareS 9 ft fs s

/-- C.NGLE.D (R755): condition 9. -/
def execCNgleD (ft fs : Reg) (s : State) : Res :=
  compareD 9 ft fs s

/-- C.NGLE.PS (R811): condition 9. -/
def execCNglePs (ft fs : Reg) (s : State) : Res :=
  comparePs 9 ft fs s

/-- C.SEQ.S (R756): condition 10. -/
def execCSeqS (ft fs : Reg) (s : State) : Res :=
  compareS 10 ft fs s

/-- C.SEQ.D (R756): condition 10. -/
def execCSeqD (ft fs : Reg) (s : State) : Res :=
  compareD 10 ft fs s

/-- C.SEQ.PS (R812): condition 10. -/
def execCSeqPs (ft fs : Reg) (s : State) : Res :=
  comparePs 10 ft fs s

/-- C.NGL.S (R757): condition 11. -/
def execCNglS (ft fs : Reg) (s : State) : Res :=
  compareS 11 ft fs s

/-- C.NGL.D (R757): condition 11. -/
def execCNglD (ft fs : Reg) (s : State) : Res :=
  compareD 11 ft fs s

/-- C.NGL.PS (R813): condition 11. -/
def execCNglPs (ft fs : Reg) (s : State) : Res :=
  comparePs 11 ft fs s

/-- C.LT.S (R758): condition 12. -/
def execCLtS (ft fs : Reg) (s : State) : Res :=
  compareS 12 ft fs s

/-- C.LT.D (R758): condition 12. -/
def execCLtD (ft fs : Reg) (s : State) : Res :=
  compareD 12 ft fs s

/-- C.LT.PS (R814): condition 12. -/
def execCLtPs (ft fs : Reg) (s : State) : Res :=
  comparePs 12 ft fs s

/-- C.NGE.S (R759): condition 13. -/
def execCNgeS (ft fs : Reg) (s : State) : Res :=
  compareS 13 ft fs s

/-- C.NGE.D (R759): condition 13. -/
def execCNgeD (ft fs : Reg) (s : State) : Res :=
  compareD 13 ft fs s

/-- C.NGE.PS (R815): condition 13. -/
def execCNgePs (ft fs : Reg) (s : State) : Res :=
  comparePs 13 ft fs s

/-- C.LE.S (R760): condition 14. -/
def execCLeS (ft fs : Reg) (s : State) : Res :=
  compareS 14 ft fs s

/-- C.LE.D (R760): condition 14. -/
def execCLeD (ft fs : Reg) (s : State) : Res :=
  compareD 14 ft fs s

/-- C.LE.PS (R816): condition 14. -/
def execCLePs (ft fs : Reg) (s : State) : Res :=
  comparePs 14 ft fs s

/-- C.NGT.S (R761): condition 15. -/
def execCNgtS (ft fs : Reg) (s : State) : Res :=
  compareS 15 ft fs s

/-- C.NGT.D (R761): condition 15. -/
def execCNgtD (ft fs : Reg) (s : State) : Res :=
  compareD 15 ft fs s

/-- C.NGT.PS (R817): condition 15. -/
def execCNgtPs (ft fs : Reg) (s : State) : Res :=
  comparePs 15 ft fs s

end Sys2Proof.Machine
end

