-- ==== Sys2Proof/Machine/FpuConvert.lean ====
section
/-! DEFINITION. Floating-point conversions (47_fpu.md R729 to R743). -/

namespace Sys2Proof.Machine

/-- ROUND.L.S (R730): the value as a 64-bit integer, rounded to nearest even. -/
def execRoundLS (fs fd : Reg) (s : State) : Res :=
  unSD (fun _ => fpToInt .single 64 .nearest) fs fd s

/-- ROUND.L.D (R730): the value as a 64-bit integer, rounded to nearest even. -/
def execRoundLD (fs fd : Reg) (s : State) : Res :=
  unDD (fun _ => fpToInt .double 64 .nearest) fs fd s

/-- TRUNC.L.S (R731): the value as a 64-bit integer, rounded toward zero. -/
def execTruncLS (fs fd : Reg) (s : State) : Res :=
  unSD (fun _ => fpToInt .single 64 .zero) fs fd s

/-- TRUNC.L.D (R731): the value as a 64-bit integer, rounded toward zero. -/
def execTruncLD (fs fd : Reg) (s : State) : Res :=
  unDD (fun _ => fpToInt .double 64 .zero) fs fd s

/-- CEIL.L.S (R732): the value as a 64-bit integer, rounded up. -/
def execCeilLS (fs fd : Reg) (s : State) : Res :=
  unSD (fun _ => fpToInt .single 64 .up) fs fd s

/-- CEIL.L.D (R732): the value as a 64-bit integer, rounded up. -/
def execCeilLD (fs fd : Reg) (s : State) : Res :=
  unDD (fun _ => fpToInt .double 64 .up) fs fd s

/-- FLOOR.L.S (R733): the value as a 64-bit integer, rounded down. -/
def execFloorLS (fs fd : Reg) (s : State) : Res :=
  unSD (fun _ => fpToInt .single 64 .down) fs fd s

/-- FLOOR.L.D (R733): the value as a 64-bit integer, rounded down. -/
def execFloorLD (fs fd : Reg) (s : State) : Res :=
  unDD (fun _ => fpToInt .double 64 .down) fs fd s

/-- ROUND.W.S (R734): the value as a 32-bit integer, rounded to nearest even. -/
def execRoundWS (fs fd : Reg) (s : State) : Res :=
  unSS (fun _ => fpToInt .single 32 .nearest) fs fd s

/-- ROUND.W.D (R734): the value as a 32-bit integer, rounded to nearest even. -/
def execRoundWD (fs fd : Reg) (s : State) : Res :=
  unDS (fun _ => fpToInt .double 32 .nearest) fs fd s

/-- TRUNC.W.S (R735): the value as a 32-bit integer, rounded toward zero. -/
def execTruncWS (fs fd : Reg) (s : State) : Res :=
  unSS (fun _ => fpToInt .single 32 .zero) fs fd s

/-- TRUNC.W.D (R735): the value as a 32-bit integer, rounded toward zero. -/
def execTruncWD (fs fd : Reg) (s : State) : Res :=
  unDS (fun _ => fpToInt .double 32 .zero) fs fd s

/-- CEIL.W.S (R736): the value as a 32-bit integer, rounded up. -/
def execCeilWS (fs fd : Reg) (s : State) : Res :=
  unSS (fun _ => fpToInt .single 32 .up) fs fd s

/-- CEIL.W.D (R736): the value as a 32-bit integer, rounded up. -/
def execCeilWD (fs fd : Reg) (s : State) : Res :=
  unDS (fun _ => fpToInt .double 32 .up) fs fd s

/-- FLOOR.W.S (R737): the value as a 32-bit integer, rounded down. -/
def execFloorWS (fs fd : Reg) (s : State) : Res :=
  unSS (fun _ => fpToInt .single 32 .down) fs fd s

/-- FLOOR.W.D (R737): the value as a 32-bit integer, rounded down. -/
def execFloorWD (fs fd : Reg) (s : State) : Res :=
  unDS (fun _ => fpToInt .double 32 .down) fs fd s

/-- CVT.W.S (R742): the value as a 32-bit integer, rounded by FCR31.RM. -/
def execCvtWS (fs fd : Reg) (s : State) : Res :=
  unSS (fun c => fpToInt .single 32 c.rm) fs fd s

/-- CVT.W.D (R742): the value as a 32-bit integer, rounded by FCR31.RM. -/
def execCvtWD (fs fd : Reg) (s : State) : Res :=
  unDS (fun c => fpToInt .double 32 c.rm) fs fd s

/-- CVT.L.S (R743): the value as a 64-bit integer, rounded by FCR31.RM. -/
def execCvtLS (fs fd : Reg) (s : State) : Res :=
  unSD (fun c => fpToInt .single 64 c.rm) fs fd s

/-- CVT.L.D (R743): the value as a 64-bit integer, rounded by FCR31.RM. -/
def execCvtLD (fs fd : Reg) (s : State) : Res :=
  unDD (fun c => fpToInt .double 64 c.rm) fs fd s

/-- CVT.S.D (R740): the value rounded to single. -/
def execCvtSD (fs fd : Reg) (s : State) : Res :=
  unDS (fpToFp .double .single) fs fd s

/-- CVT.S.W (R740): the 32-bit integer rounded to single. -/
def execCvtSW (fs fd : Reg) (s : State) : Res :=
  unSS (fun c a => intToFp .single c (BitVec.ofNat 32 a).toInt) fs fd s

/-- CVT.S.L (R740): the 64-bit integer rounded to single. -/
def execCvtSL (fs fd : Reg) (s : State) : Res :=
  unDS (fun c a => intToFp .single c (BitVec.ofNat 64 a).toInt) fs fd s

/-- CVT.D.S (R741): the value as a double. -/
def execCvtDS (fs fd : Reg) (s : State) : Res :=
  unSD (fpToFp .single .double) fs fd s

/-- CVT.D.W (R741): the 32-bit integer as a double. -/
def execCvtDW (fs fd : Reg) (s : State) : Res :=
  unSD (fun c a => intToFp .double c (BitVec.ofNat 32 a).toInt) fs fd s

/-- CVT.D.L (R741): the 64-bit integer rounded to double. -/
def execCvtDL (fs fd : Reg) (s : State) : Res :=
  unDD (fun c a => intToFp .double c (BitVec.ofNat 64 a).toInt) fs fd s

end Sys2Proof.Machine
end

