-- ==== Sys2Proof/Machine/FpuMove.lean ====
section
/-! DEFINITION. Floating moves, control words and branches on the condition bit (47_fpu.md R727, R765 to R776). -/

namespace Sys2Proof.Machine

/-- MOV.S (R727): a 32-bit copy. -/
def execMovS (fs fd : Reg) (s : State) : Res :=
  withCp1 s (.next (advance (s.setFprS fd (s.fprS fs))))

/-- MOV.D (R727): a 64-bit copy. -/
def execMovD (fs fd : Reg) (s : State) : Res :=
  withCp1 s (withDouble s [fs, fd] (.next (advance (s.setFprAt fd (s.fprAt fs)))))

/-- MOV.PS (R800): a 64-bit copy. -/
def execMovPs (fs fd : Reg) (s : State) : Res :=
  withCp1 s (withDouble s [fs, fd] (.next (advance (s.setFprAt fd (s.fprAt fs)))))

/-- MFC1 (R765): `rt` takes the 32-bit register, sign-extended. -/
def execMfc1 (rt fs : Reg) (s : State) : Res :=
  withCp1 s (writeNext rt (sext32 (s.fprS fs)) s)

/-- DMFC1 (R766): `rt` takes the 64-bit register. -/
def execDmfc1 (rt fs : Reg) (s : State) : Res :=
  withCp1 s (withDouble s [fs] (writeNext rt (s.fprAt fs) s))

/-- CFC1 (R769): `rt` takes FCR0 or FCR31. -/
def execCfc1 (rt fs : Reg) (s : State) : Res :=
  withCp1 s (
    if fs = 0 then writeNext rt (sext32 fcr0Value) s
    else if fs = 31 then writeNext rt (s.fcr31.setWidth 64) s
    else .fault .fcrUndefined)

/-- MTC1 (R767): the 32-bit register takes the low word of `rt`. -/
def execMtc1 (rt fs : Reg) (s : State) : Res :=
  withCp1 s (.next (advance (s.setFprS fs (lo32 (s.reg rt)))))

/-- DMTC1 (R768): the 64-bit register takes `rt`. -/
def execDmtc1 (rt fs : Reg) (s : State) : Res :=
  withCp1 s (withDouble s [fs] (.next (advance (s.setFprAt fs (s.reg rt)))))

/-- CTC1 (R770): FCR31 takes `rt`, and traps if a cause now stands enabled; FCR0 ignores it. -/
def execCtc1 (rt fs : Reg) (s : State) : Res :=
  withCp1 s (
    if fs = 31 then
      let f := lo32 (s.reg rt) &&& fcrMask
      if fcrTraps f (fcrCauses f) then raise .fpe { s with fcr31 := f }
      else .next (advance { s with fcr31 := f })
    else if fs = 0 then .next (advance s)
    else .fault .fcrUndefined)

/-- BC1F (R773): taken when CC0 is 0. -/
def execBc1f (offset : Imm16) (s : State) : Res :=
  withCp1 s (branch (!fcrCc0 s.fcr31) false (branchTarget s offset) s)

/-- BC1T (R774): taken when CC0 is 1. -/
def execBc1t (offset : Imm16) (s : State) : Res :=
  withCp1 s (branch (fcrCc0 s.fcr31) false (branchTarget s offset) s)

/-- BC1FL (R775): taken when CC0 is 0, else the slot is nullified. -/
def execBc1fl (offset : Imm16) (s : State) : Res :=
  withCp1 s (branch (!fcrCc0 s.fcr31) true (branchTarget s offset) s)

/-- BC1TL (R776): taken when CC0 is 1, else the slot is nullified. -/
def execBc1tl (offset : Imm16) (s : State) : Res :=
  withCp1 s (branch (fcrCc0 s.fcr31) true (branchTarget s offset) s)

end Sys2Proof.Machine
end

