-- ==== Sys2Proof/Machine/LoadStore.lean ====
section
/-! DEFINITION. Loads, stores, LL/SC and SYNC (40_load_store.md). -/

namespace Sys2Proof.Machine

/-- LB (R404): `rt` takes the byte sign-extended. -/
def execLb (base rt : Reg) (offset : Imm16) (s : State) : Res :=
  loadReg base rt offset 1 (fun d => (d.setWidth 8).signExtend 64) s

/-- LBU (R405): `rt` takes the byte zero-extended. -/
def execLbu (base rt : Reg) (offset : Imm16) (s : State) : Res :=
  loadReg base rt offset 1 (fun d => d.setWidth 64) s

/-- LH (R406): `rt` takes the halfword sign-extended. -/
def execLh (base rt : Reg) (offset : Imm16) (s : State) : Res :=
  loadReg base rt offset 2 (fun d => (d.setWidth 16).signExtend 64) s

/-- LHU (R407): `rt` takes the halfword zero-extended. -/
def execLhu (base rt : Reg) (offset : Imm16) (s : State) : Res :=
  loadReg base rt offset 2 (fun d => d.setWidth 64) s

/-- LW (R408): `rt` takes the word sign-extended. -/
def execLw (base rt : Reg) (offset : Imm16) (s : State) : Res :=
  loadReg base rt offset 4 (fun d => sext32 (d.setWidth 32)) s

/-- LWU (R409): `rt` takes the word zero-extended. -/
def execLwu (base rt : Reg) (offset : Imm16) (s : State) : Res :=
  loadReg base rt offset 4 (fun d => d.setWidth 64) s

/-- LD (R410): `rt` takes the doubleword. -/
def execLd (base rt : Reg) (offset : Imm16) (s : State) : Res :=
  loadReg base rt offset 8 (fun d => d.setWidth 64) s

/-- LWL (R412): bytes `aw .. va` become the high end of the word in `rt`. -/
def execLwl (base rt : Reg) (offset : Imm16) (s : State) : Res :=
  let va := s.ea base offset
  let b := (va.extractLsb' 0 2).toNat
  loadPart rt va (va &&& ~~~3) (b + 1)
    (fun old d => sext32 (merge (BitVec.allOnes 32 <<< (8 * (3 - b))) (lo32 old)
      (d.setWidth 32 <<< (8 * (3 - b))))) s

/-- LWR (R413): bytes `va .. aw + 3` become the low end of the word in `rt`, bit 31 copied up (D1). -/
def execLwr (base rt : Reg) (offset : Imm16) (s : State) : Res :=
  let va := s.ea base offset
  let b := (va.extractLsb' 0 2).toNat
  loadPart rt va va (4 - b)
    (fun old d => sext32 (merge (BitVec.allOnes 32 >>> (8 * b)) (lo32 old) (d.setWidth 32))) s

/-- LDL (R414): bytes `ad .. va` become the high end of `rt`. -/
def execLdl (base rt : Reg) (offset : Imm16) (s : State) : Res :=
  let va := s.ea base offset
  let b := (va.extractLsb' 0 3).toNat
  loadPart rt va (va &&& ~~~7) (b + 1)
    (fun old d => merge (BitVec.allOnes 64 <<< (8 * (7 - b))) old (d.setWidth 64 <<< (8 * (7 - b)))) s

/-- LDR (R415): bytes `va .. ad + 7` become the low end of `rt`. -/
def execLdr (base rt : Reg) (offset : Imm16) (s : State) : Res :=
  let va := s.ea base offset
  let b := (va.extractLsb' 0 3).toNat
  loadPart rt va va (8 - b)
    (fun old d => merge (BitVec.allOnes 64 >>> (8 * b)) old (d.setWidth 64)) s

/-- SWL (R416): the high end of the word in `rt` goes to bytes `aw .. va`. -/
def execSwl (base rt : Reg) (offset : Imm16) (s : State) : Res :=
  let va := s.ea base offset
  let b := (va.extractLsb' 0 2).toNat
  storePart va (va &&& ~~~3) (b + 1) ((lo32 (s.reg rt) >>> (8 * (3 - b))).setWidth 64) s

/-- SWR (R417): the low end of the word in `rt` goes to bytes `va .. aw + 3`. -/
def execSwr (base rt : Reg) (offset : Imm16) (s : State) : Res :=
  let va := s.ea base offset
  let b := (va.extractLsb' 0 2).toNat
  storePart va va (4 - b) (s.reg rt) s

/-- SDL (R418): the high end of `rt` goes to bytes `ad .. va`. -/
def execSdl (base rt : Reg) (offset : Imm16) (s : State) : Res :=
  let va := s.ea base offset
  let b := (va.extractLsb' 0 3).toNat
  storePart va (va &&& ~~~7) (b + 1) (s.reg rt >>> (8 * (7 - b))) s

/-- SDR (R419): the low end of `rt` goes to bytes `va .. ad + 7`. -/
def execSdr (base rt : Reg) (offset : Imm16) (s : State) : Res :=
  let va := s.ea base offset
  let b := (va.extractLsb' 0 3).toNat
  storePart va va (8 - b) (s.reg rt) s

/-- SB (R420): the low 1 byte of `rt` are stored. -/
def execSb (base rt : Reg) (offset : Imm16) (s : State) : Res :=
  storeMem base offset 1 (s.reg rt) s

/-- SH (R421): the low 2 bytes of `rt` are stored. -/
def execSh (base rt : Reg) (offset : Imm16) (s : State) : Res :=
  storeMem base offset 2 (s.reg rt) s

/-- SW (R422): the low 4 bytes of `rt` are stored. -/
def execSw (base rt : Reg) (offset : Imm16) (s : State) : Res :=
  storeMem base offset 4 (s.reg rt) s

/-- SD (R423): the low 8 bytes of `rt` are stored. -/
def execSd (base rt : Reg) (offset : Imm16) (s : State) : Res :=
  storeMem base offset 8 (s.reg rt) s

/-- LL (R429): a word load that sets the link. -/
def execLl (base rt : Reg) (offset : Imm16) (s : State) : Res :=
  loadLinked base rt offset 4 (fun d => sext32 (d.setWidth 32)) s

/-- LLD (R430): a doubleword load that sets the link. -/
def execLld (base rt : Reg) (offset : Imm16) (s : State) : Res :=
  loadLinked base rt offset 8 (fun d => d.setWidth 64) s

/-- SC (R431): a word store under the link; `rt` takes 1 or 0. -/
def execSc (base rt : Reg) (offset : Imm16) (s : State) : Res :=
  storeConditional base rt offset 4 s

/-- SCD (R432): a doubleword store under the link; `rt` takes 1 or 0. -/
def execScd (base rt : Reg) (offset : Imm16) (s : State) : Res :=
  storeConditional base rt offset 8 s

/-- LWC1 (R424): a word into a floating register. -/
def execLwc1 (base ft : Reg) (offset : Imm16) (s : State) : Res :=
  let va := s.ea base offset
  withCp1 s (afterMem s (memRead s (alignedTo 4 va) va va 4) fun d s1 =>
    .next (advance (s1.setFprS ft (d.setWidth 32))))

/-- LDC1 (R425): a doubleword into a floating register. -/
def execLdc1 (base ft : Reg) (offset : Imm16) (s : State) : Res :=
  let va := s.ea base offset
  withCp1 s (withDouble s [ft] (afterMem s (memRead s (alignedTo 8 va) va va 8) fun d s1 =>
    .next (advance (s1.setFprAt ft (d.setWidth 64)))))

/-- SWC1 (R426): a 32-bit floating register is stored. -/
def execSwc1 (base ft : Reg) (offset : Imm16) (s : State) : Res :=
  withCp1 s (storeMem base offset 4 ((s.fprS ft).setWidth 64) s)

/-- SDC1 (R427): a 64-bit floating register is stored. -/
def execSdc1 (base ft : Reg) (offset : Imm16) (s : State) : Res :=
  withCp1 s (withDouble s [ft] (storeMem base offset 8 (s.fprAt ft) s))

/-- SYNC (R434): the gather buffer goes out (20_memory.md R303). -/
def execSync (s : State) : Res :=
  afterMem s (drainGather s.ctx s.mem) fun _ s1 => .next (advance s1)

end Sys2Proof.Machine
end

