-- ==== Sys2Proof/Machine/MulDiv.lean ====
section
/-! DEFINITION. Multiply, divide and HI/LO moves (42_muldiv.md). -/

namespace Sys2Proof.Machine

/-- HI and LO written, in that order (42_muldiv.md R500). -/
def writeHiLo (p : Word × Word) (s : State) : Res := .next (advance { s with hi := p.1, lo := p.2 })

/-- HI and LO of a 64-bit product, each half sign-extended (42_muldiv.md R505). -/
def mul32 (p : Int) : Word × Word :=
  (sext32 (hi32 (BitVec.ofInt 64 p)), sext32 (lo32 (BitVec.ofInt 64 p)))

/-- HI and LO of a 128-bit product (42_muldiv.md R507). -/
def mul64 (p : Int) : Word × Word :=
  ((BitVec.ofInt 128 p).extractLsb' 64 64, (BitVec.ofInt 128 p).extractLsb' 0 64)

/-- The signed quotient, truncated toward zero (00_scope.md R25, 42_muldiv.md R503). -/
def quot32 (a b : BitVec 32) : BitVec 32 := BitVec.ofInt 32 (a.toInt.tdiv b.toInt)
/-- The signed remainder, with the dividend's sign (00_scope.md R25, 42_muldiv.md R503). -/
def rem32 (a b : BitVec 32) : BitVec 32 := BitVec.ofInt 32 (a.toInt.tmod b.toInt)
/-- The signed quotient, truncated toward zero (00_scope.md R25, 42_muldiv.md R503). -/
def quot64 (a b : Word) : Word := BitVec.ofInt 64 (a.toInt.tdiv b.toInt)
/-- The signed remainder, with the dividend's sign (00_scope.md R25, 42_muldiv.md R503). -/
def rem64 (a b : Word) : Word := BitVec.ofInt 64 (a.toInt.tmod b.toInt)

/-- HI and LO of a 32-bit division, free sign-extended words for divisor 0 (42_muldiv.md R502). -/
def div32 (s : State) (b q r : BitVec 32) : Word × Word :=
  if b = 0 then (sext32 (draw 32 .divByZero s.tick 0), sext32 (draw 32 .divByZero s.tick 1))
  else (sext32 r, sext32 q)

/-- HI and LO of a 64-bit division, free values for divisor 0 (42_muldiv.md R502). -/
def div64 (s : State) (b q r : Word) : Word × Word :=
  if b = 0 then (draw 64 .divByZero s.tick 0, draw 64 .divByZero s.tick 1) else (r, q)

/-- The result of a 32-bit Godson division, a free sign-extended word for divisor 0 (42_muldiv.md R519). -/
def single32 (s : State) (b q : BitVec 32) : Word :=
  sext32 (if b = 0 then draw 32 .divByZero s.tick 0 else q)

/-- The result of a 64-bit Godson division, a free value for divisor 0 (42_muldiv.md R519). -/
def single64 (s : State) (b q : Word) : Word := if b = 0 then draw 64 .divByZero s.tick 0 else q

/-- MULT (R505): signed 32-bit product, its halves sign-extended. -/
def execMult (rs rt : Reg) (s : State) : Res :=
  writeHiLo (mul32 ((lo32 (s.reg rs)).toInt * (lo32 (s.reg rt)).toInt)) s

/-- MULTU (R506): unsigned 32-bit product, its halves sign-extended. -/
def execMultu (rs rt : Reg) (s : State) : Res :=
  writeHiLo (mul32 ((lo32 (s.reg rs)).toNat * (lo32 (s.reg rt)).toNat)) s

/-- DMULT (R507): signed 64-bit product. -/
def execDmult (rs rt : Reg) (s : State) : Res :=
  writeHiLo (mul64 ((s.reg rs).toInt * (s.reg rt).toInt)) s

/-- DMULTU (R508): unsigned 64-bit product. -/
def execDmultu (rs rt : Reg) (s : State) : Res :=
  writeHiLo (mul64 ((s.reg rs).toNat * (s.reg rt).toNat)) s

/-- DIV (R509): signed 32-bit division. -/
def execDiv (rs rt : Reg) (s : State) : Res :=
  writeHiLo (div32 s (lo32 (s.reg rt)) (quot32 (lo32 (s.reg rs)) (lo32 (s.reg rt)))
    (rem32 (lo32 (s.reg rs)) (lo32 (s.reg rt)))) s

/-- DIVU (R510): unsigned 32-bit division. -/
def execDivu (rs rt : Reg) (s : State) : Res :=
  writeHiLo (div32 s (lo32 (s.reg rt)) (lo32 (s.reg rs) / lo32 (s.reg rt))
    (lo32 (s.reg rs) % lo32 (s.reg rt))) s

/-- DDIV (R511): signed 64-bit division. -/
def execDdiv (rs rt : Reg) (s : State) : Res :=
  writeHiLo (div64 s (s.reg rt) (quot64 (s.reg rs) (s.reg rt)) (rem64 (s.reg rs) (s.reg rt))) s

/-- DDIVU (R512): unsigned 64-bit division. -/
def execDdivu (rs rt : Reg) (s : State) : Res :=
  writeHiLo (div64 s (s.reg rt) (s.reg rs / s.reg rt) (s.reg rs % s.reg rt)) s

/-- MFHI (R513): `rd` takes HI. -/
def execMfhi (rd : Reg) (s : State) : Res :=
  writeNext rd s.hi s

/-- MTHI (R514): HI takes `rs`. -/
def execMthi (rs : Reg) (s : State) : Res :=
  .next (advance { s with hi := s.reg rs })

/-- MFLO (R515): `rd` takes LO. -/
def execMflo (rd : Reg) (s : State) : Res :=
  writeNext rd s.lo s

/-- MTLO (R516): LO takes `rs`. -/
def execMtlo (rs : Reg) (s : State) : Res :=
  .next (advance { s with lo := s.reg rs })

/-- MULTG (R521): the low word of the signed product, sign-extended. -/
def execMultg (rs rt rd : Reg) (s : State) : Res :=
  writeNext rd (mul32 ((lo32 (s.reg rs)).toInt * (lo32 (s.reg rt)).toInt)).2 s

/-- DMULTG (R522): the low doubleword of the signed product. -/
def execDmultg (rs rt rd : Reg) (s : State) : Res :=
  writeNext rd (mul64 ((s.reg rs).toInt * (s.reg rt).toInt)).2 s

/-- MULTUG (R523): the low word of the unsigned product, sign-extended. -/
def execMultug (rs rt rd : Reg) (s : State) : Res :=
  writeNext rd (mul32 ((lo32 (s.reg rs)).toNat * (lo32 (s.reg rt)).toNat)).2 s

/-- DMULTUG (R524): the low doubleword of the unsigned product. -/
def execDmultug (rs rt rd : Reg) (s : State) : Res :=
  writeNext rd (mul64 ((s.reg rs).toNat * (s.reg rt).toNat)).2 s

/-- DIVG (R525): the signed 32-bit quotient, sign-extended. -/
def execDivg (rs rt rd : Reg) (s : State) : Res :=
  writeNext rd (single32 s (lo32 (s.reg rt)) (quot32 (lo32 (s.reg rs)) (lo32 (s.reg rt)))) s

/-- DDIVG (R526): the signed 64-bit quotient. -/
def execDdivg (rs rt rd : Reg) (s : State) : Res :=
  writeNext rd (single64 s (s.reg rt) (quot64 (s.reg rs) (s.reg rt))) s

/-- DIVUG (R527): the unsigned 32-bit quotient, sign-extended. -/
def execDivug (rs rt rd : Reg) (s : State) : Res :=
  writeNext rd (single32 s (lo32 (s.reg rt)) (lo32 (s.reg rs) / lo32 (s.reg rt))) s

/-- DDIVUG (R528): the unsigned 64-bit quotient. -/
def execDdivug (rs rt rd : Reg) (s : State) : Res :=
  writeNext rd (single64 s (s.reg rt) (s.reg rs / s.reg rt)) s

/-- MODG (R529): the signed 32-bit remainder, sign-extended. -/
def execModg (rs rt rd : Reg) (s : State) : Res :=
  writeNext rd (single32 s (lo32 (s.reg rt)) (rem32 (lo32 (s.reg rs)) (lo32 (s.reg rt)))) s

/-- DMODG (R530): the signed 64-bit remainder. -/
def execDmodg (rs rt rd : Reg) (s : State) : Res :=
  writeNext rd (single64 s (s.reg rt) (rem64 (s.reg rs) (s.reg rt))) s

/-- MODUG (R531): the unsigned 32-bit remainder, sign-extended. -/
def execModug (rs rt rd : Reg) (s : State) : Res :=
  writeNext rd (single32 s (lo32 (s.reg rt)) (lo32 (s.reg rs) % lo32 (s.reg rt))) s

/-- DMODUG (R532): the unsigned 64-bit remainder. -/
def execDmodug (rs rt rd : Reg) (s : State) : Res :=
  writeNext rd (single64 s (s.reg rt) (s.reg rs % s.reg rt)) s

end Sys2Proof.Machine
end

