-- ==== Sys2Proof/Syntax.lean ====
section
/-! DEFINITION. The instruction syntax: one constructor per row of spec/opcode_table.json, in the
table's order, with the row's operand fields in the order of their bits (30_encoding.md R351, R352).
A constructor's docstring names the row and the rule that gives its meaning. -/

namespace Sys2Proof

/-- An instruction of the Loongson 2F, fields decoded (30_encoding.md R350 to R367). -/
inductive Instr where
  /-- LB (40_load_store.md R404). -/
  | lb (base rt : Reg) (offset : Imm16)
  /-- LBU (40_load_store.md R405). -/
  | lbu (base rt : Reg) (offset : Imm16)
  /-- LH (40_load_store.md R406). -/
  | lh (base rt : Reg) (offset : Imm16)
  /-- LHU (40_load_store.md R407). -/
  | lhu (base rt : Reg) (offset : Imm16)
  /-- LW (40_load_store.md R408). -/
  | lw (base rt : Reg) (offset : Imm16)
  /-- LWU (40_load_store.md R409). -/
  | lwu (base rt : Reg) (offset : Imm16)
  /-- LD (40_load_store.md R410). -/
  | ld (base rt : Reg) (offset : Imm16)
  /-- LWL (40_load_store.md R412). -/
  | lwl (base rt : Reg) (offset : Imm16)
  /-- LWR (40_load_store.md R413). -/
  | lwr (base rt : Reg) (offset : Imm16)
  /-- LDL (40_load_store.md R414). -/
  | ldl (base rt : Reg) (offset : Imm16)
  /-- LDR (40_load_store.md R415). -/
  | ldr (base rt : Reg) (offset : Imm16)
  /-- SWL (40_load_store.md R416). -/
  | swl (base rt : Reg) (offset : Imm16)
  /-- SWR (40_load_store.md R417). -/
  | swr (base rt : Reg) (offset : Imm16)
  /-- SDL (40_load_store.md R418). -/
  | sdl (base rt : Reg) (offset : Imm16)
  /-- SDR (40_load_store.md R419). -/
  | sdr (base rt : Reg) (offset : Imm16)
  /-- SB (40_load_store.md R420). -/
  | sb (base rt : Reg) (offset : Imm16)
  /-- SH (40_load_store.md R421). -/
  | sh (base rt : Reg) (offset : Imm16)
  /-- SW (40_load_store.md R422). -/
  | sw (base rt : Reg) (offset : Imm16)
  /-- SD (40_load_store.md R423). -/
  | sd (base rt : Reg) (offset : Imm16)
  /-- LL (40_load_store.md R429). -/
  | ll (base rt : Reg) (offset : Imm16)
  /-- LLD (40_load_store.md R430). -/
  | lld (base rt : Reg) (offset : Imm16)
  /-- SC (40_load_store.md R431). -/
  | sc (base rt : Reg) (offset : Imm16)
  /-- SCD (40_load_store.md R432). -/
  | scd (base rt : Reg) (offset : Imm16)
  /-- LWC1 (40_load_store.md R424). -/
  | lwc1 (base ft : Reg) (offset : Imm16)
  /-- LDC1 (40_load_store.md R425). -/
  | ldc1 (base ft : Reg) (offset : Imm16)
  /-- SWC1 (40_load_store.md R426). -/
  | swc1 (base ft : Reg) (offset : Imm16)
  /-- SDC1 (40_load_store.md R427). -/
  | sdc1 (base ft : Reg) (offset : Imm16)
  /-- SYNC (40_load_store.md R434). -/
  | sync
  /-- ADDI (41_alu.md R455). -/
  | addi (rs rt : Reg) (imm : Imm16)
  /-- DADDI (41_alu.md R456). -/
  | daddi (rs rt : Reg) (imm : Imm16)
  /-- ADDIU (41_alu.md R457). -/
  | addiu (rs rt : Reg) (imm : Imm16)
  /-- DADDIU (41_alu.md R458). -/
  | daddiu (rs rt : Reg) (imm : Imm16)
  /-- SLTI (41_alu.md R459). -/
  | slti (rs rt : Reg) (imm : Imm16)
  /-- SLTIU (41_alu.md R460). -/
  | sltiu (rs rt : Reg) (imm : Imm16)
  /-- ANDI (41_alu.md R461). -/
  | andi (rs rt : Reg) (imm : Imm16)
  /-- ORI (41_alu.md R462). -/
  | ori (rs rt : Reg) (imm : Imm16)
  /-- XORI (41_alu.md R463). -/
  | xori (rs rt : Reg) (imm : Imm16)
  /-- LUI (41_alu.md R464). -/
  | lui (rt : Reg) (imm : Imm16)
  /-- ADD (41_alu.md R470). -/
  | add (rs rt rd : Reg)
  /-- DADD (41_alu.md R471). -/
  | dadd (rs rt rd : Reg)
  /-- ADDU (41_alu.md R472). -/
  | addu (rs rt rd : Reg)
  /-- DADDU (41_alu.md R473). -/
  | daddu (rs rt rd : Reg)
  /-- SUB (41_alu.md R474). -/
  | sub (rs rt rd : Reg)
  /-- DSUB (41_alu.md R475). -/
  | dsub (rs rt rd : Reg)
  /-- SUBU (41_alu.md R476). -/
  | subu (rs rt rd : Reg)
  /-- DSUBU (41_alu.md R477). -/
  | dsubu (rs rt rd : Reg)
  /-- SLT (41_alu.md R478). -/
  | slt (rs rt rd : Reg)
  /-- SLTU (41_alu.md R479). -/
  | sltu (rs rt rd : Reg)
  /-- AND (41_alu.md R480). -/
  | and (rs rt rd : Reg)
  /-- OR (41_alu.md R481). -/
  | or (rs rt rd : Reg)
  /-- XOR (41_alu.md R482). -/
  | xor (rs rt rd : Reg)
  /-- NOR (41_alu.md R483). -/
  | nor (rs rt rd : Reg)
  /-- MOVZ (41_alu.md R486). -/
  | movz (rs rt rd : Reg)
  /-- MOVN (41_alu.md R487). -/
  | movn (rs rt rd : Reg)
  /-- MULT (42_muldiv.md R505). -/
  | mult (rs rt : Reg)
  /-- MULTU (42_muldiv.md R506). -/
  | multu (rs rt : Reg)
  /-- DMULT (42_muldiv.md R507). -/
  | dmult (rs rt : Reg)
  /-- DMULTU (42_muldiv.md R508). -/
  | dmultu (rs rt : Reg)
  /-- DIV (42_muldiv.md R509). -/
  | div (rs rt : Reg)
  /-- DIVU (42_muldiv.md R510). -/
  | divu (rs rt : Reg)
  /-- DDIV (42_muldiv.md R511). -/
  | ddiv (rs rt : Reg)
  /-- DDIVU (42_muldiv.md R512). -/
  | ddivu (rs rt : Reg)
  /-- MFHI (42_muldiv.md R513). -/
  | mfhi (rd : Reg)
  /-- MTHI (42_muldiv.md R514). -/
  | mthi (rs : Reg)
  /-- MFLO (42_muldiv.md R515). -/
  | mflo (rd : Reg)
  /-- MTLO (42_muldiv.md R516). -/
  | mtlo (rs : Reg)
  /-- MULTG (42_muldiv.md R521). -/
  | multg (rs rt rd : Reg)
  /-- DMULTG (42_muldiv.md R522). -/
  | dmultg (rs rt rd : Reg)
  /-- MULTUG (42_muldiv.md R523). -/
  | multug (rs rt rd : Reg)
  /-- DMULTUG (42_muldiv.md R524). -/
  | dmultug (rs rt rd : Reg)
  /-- DIVG (42_muldiv.md R525). -/
  | divg (rs rt rd : Reg)
  /-- DDIVG (42_muldiv.md R526). -/
  | ddivg (rs rt rd : Reg)
  /-- DIVUG (42_muldiv.md R527). -/
  | divug (rs rt rd : Reg)
  /-- DDIVUG (42_muldiv.md R528). -/
  | ddivug (rs rt rd : Reg)
  /-- MODG (42_muldiv.md R529). -/
  | modg (rs rt rd : Reg)
  /-- DMODG (42_muldiv.md R530). -/
  | dmodg (rs rt rd : Reg)
  /-- MODUG (42_muldiv.md R531). -/
  | modug (rs rt rd : Reg)
  /-- DMODUG (42_muldiv.md R532). -/
  | dmodug (rs rt rd : Reg)
  /-- J (43_branch_jump.md R560). -/
  | j (target : BitVec 26)
  /-- JAL (43_branch_jump.md R561). -/
  | jal (target : BitVec 26)
  /-- JR (43_branch_jump.md R562). -/
  | jr (rs : Reg)
  /-- JALR (43_branch_jump.md R563). -/
  | jalr (rs rd : Reg)
  /-- BEQ (43_branch_jump.md R564). -/
  | beq (rs rt : Reg) (imm : Imm16)
  /-- BNE (43_branch_jump.md R565). -/
  | bne (rs rt : Reg) (imm : Imm16)
  /-- BEQL (43_branch_jump.md R572). -/
  | beql (rs rt : Reg) (imm : Imm16)
  /-- BNEL (43_branch_jump.md R573). -/
  | bnel (rs rt : Reg) (imm : Imm16)
  /-- BLEZ (43_branch_jump.md R566). -/
  | blez (rs : Reg) (imm : Imm16)
  /-- BGTZ (43_branch_jump.md R567). -/
  | bgtz (rs : Reg) (imm : Imm16)
  /-- BLEZL (43_branch_jump.md R574). -/
  | blezl (rs : Reg) (imm : Imm16)
  /-- BGTZL (43_branch_jump.md R575). -/
  | bgtzl (rs : Reg) (imm : Imm16)
  /-- BLTZ (43_branch_jump.md R568). -/
  | bltz (rs : Reg) (imm : Imm16)
  /-- BGEZ (43_branch_jump.md R569). -/
  | bgez (rs : Reg) (imm : Imm16)
  /-- BLTZAL (43_branch_jump.md R570). -/
  | bltzal (rs : Reg) (imm : Imm16)
  /-- BGEZAL (43_branch_jump.md R571). -/
  | bgezal (rs : Reg) (imm : Imm16)
  /-- BLTZL (43_branch_jump.md R576). -/
  | bltzl (rs : Reg) (imm : Imm16)
  /-- BGEZL (43_branch_jump.md R577). -/
  | bgezl (rs : Reg) (imm : Imm16)
  /-- BLTZALL (43_branch_jump.md R578). -/
  | bltzall (rs : Reg) (imm : Imm16)
  /-- BGEZALL (43_branch_jump.md R579). -/
  | bgezall (rs : Reg) (imm : Imm16)
  /-- SLL (44_shift.md R602). -/
  | sll (rt rd sa : Reg)
  /-- SRL (44_shift.md R603). -/
  | srl (rt rd sa : Reg)
  /-- SRA (44_shift.md R604). -/
  | sra (rt rd sa : Reg)
  /-- DSLL (44_shift.md R608). -/
  | dsll (rt rd sa : Reg)
  /-- DSRL (44_shift.md R609). -/
  | dsrl (rt rd sa : Reg)
  /-- DSRA (44_shift.md R610). -/
  | dsra (rt rd sa : Reg)
  /-- DSLL32 (44_shift.md R614). -/
  | dsll32 (rt rd sa : Reg)
  /-- DSRL32 (44_shift.md R615). -/
  | dsrl32 (rt rd sa : Reg)
  /-- DSRA32 (44_shift.md R616). -/
  | dsra32 (rt rd sa : Reg)
  /-- SLLV (44_shift.md R605). -/
  | sllv (rs rt rd : Reg)
  /-- SRLV (44_shift.md R606). -/
  | srlv (rs rt rd : Reg)
  /-- SRAV (44_shift.md R607). -/
  | srav (rs rt rd : Reg)
  /-- DSLLV (44_shift.md R611). -/
  | dsllv (rs rt rd : Reg)
  /-- DSRLV (44_shift.md R612). -/
  | dsrlv (rs rt rd : Reg)
  /-- DSRAV (44_shift.md R613). -/
  | dsrav (rs rt rd : Reg)
  /-- SYSCALL (45_special_trap.md R631). -/
  | syscall (code20 : BitVec 20)
  /-- BREAK (45_special_trap.md R632). -/
  | brk (code20 : BitVec 20)
  /-- TGE (45_special_trap.md R634). -/
  | tge (rs rt : Reg) (code10 : BitVec 10)
  /-- TGEU (45_special_trap.md R635). -/
  | tgeu (rs rt : Reg) (code10 : BitVec 10)
  /-- TLT (45_special_trap.md R636). -/
  | tlt (rs rt : Reg) (code10 : BitVec 10)
  /-- TLTU (45_special_trap.md R637). -/
  | tltu (rs rt : Reg) (code10 : BitVec 10)
  /-- TEQ (45_special_trap.md R638). -/
  | teq (rs rt : Reg) (code10 : BitVec 10)
  /-- TNE (45_special_trap.md R639). -/
  | tne (rs rt : Reg) (code10 : BitVec 10)
  /-- TGEI (45_special_trap.md R640). -/
  | tgei (rs : Reg) (imm : Imm16)
  /-- TGEIU (45_special_trap.md R641). -/
  | tgeiu (rs : Reg) (imm : Imm16)
  /-- TLTI (45_special_trap.md R642). -/
  | tlti (rs : Reg) (imm : Imm16)
  /-- TLTIU (45_special_trap.md R643). -/
  | tltiu (rs : Reg) (imm : Imm16)
  /-- TEQI (45_special_trap.md R644). -/
  | teqi (rs : Reg) (imm : Imm16)
  /-- TNEI (45_special_trap.md R645). -/
  | tnei (rs : Reg) (imm : Imm16)
  /-- MFC0 (46_cp0_privileged.md R660). -/
  | mfc0 (rt rd : Reg)
  /-- DMFC0 (46_cp0_privileged.md R661). -/
  | dmfc0 (rt rd : Reg)
  /-- MTC0 (46_cp0_privileged.md R662). -/
  | mtc0 (rt rd : Reg)
  /-- DMTC0 (46_cp0_privileged.md R663). -/
  | dmtc0 (rt rd : Reg)
  /-- TLBP (46_cp0_privileged.md R669). -/
  | tlbp
  /-- TLBR (46_cp0_privileged.md R670). -/
  | tlbr
  /-- TLBWI (46_cp0_privileged.md R671). -/
  | tlbwi
  /-- TLBWR (46_cp0_privileged.md R672). -/
  | tlbwr
  /-- ERET (46_cp0_privileged.md R673). -/
  | eret
  /-- CACHE (46_cp0_privileged.md R680). -/
  | cache (base opn : Reg) (offset : Imm16)
  /-- ADD.S (47_fpu.md R721). -/
  | addS (ft fs fd : Reg)
  /-- ADD.D (47_fpu.md R721). -/
  | addD (ft fs fd : Reg)
  /-- ADD.PS (48_fpu_ext.md R795). -/
  | addPs (ft fs fd : Reg)
  /-- SUB.S (47_fpu.md R722). -/
  | subS (ft fs fd : Reg)
  /-- SUB.D (47_fpu.md R722). -/
  | subD (ft fs fd : Reg)
  /-- SUB.PS (48_fpu_ext.md R796). -/
  | subPs (ft fs fd : Reg)
  /-- MUL.S (47_fpu.md R723). -/
  | mulS (ft fs fd : Reg)
  /-- MUL.D (47_fpu.md R723). -/
  | mulD (ft fs fd : Reg)
  /-- MUL.PS (48_fpu_ext.md R797). -/
  | mulPs (ft fs fd : Reg)
  /-- DIV.S (47_fpu.md R724). -/
  | divS (ft fs fd : Reg)
  /-- DIV.D (47_fpu.md R724). -/
  | divD (ft fs fd : Reg)
  /-- SQRT.S (47_fpu.md R725). -/
  | sqrtS (fs fd : Reg)
  /-- SQRT.D (47_fpu.md R725). -/
  | sqrtD (fs fd : Reg)
  /-- ABS.S (47_fpu.md R726). -/
  | absS (fs fd : Reg)
  /-- ABS.D (47_fpu.md R726). -/
  | absD (fs fd : Reg)
  /-- ABS.PS (48_fpu_ext.md R798). -/
  | absPs (fs fd : Reg)
  /-- MOV.S (47_fpu.md R727). -/
  | movS (fs fd : Reg)
  /-- MOV.D (47_fpu.md R727). -/
  | movD (fs fd : Reg)
  /-- MOV.PS (48_fpu_ext.md R800). -/
  | movPs (fs fd : Reg)
  /-- NEG.S (47_fpu.md R728). -/
  | negS (fs fd : Reg)
  /-- NEG.D (47_fpu.md R728). -/
  | negD (fs fd : Reg)
  /-- NEG.PS (48_fpu_ext.md R799). -/
  | negPs (fs fd : Reg)
  /-- ROUND.L.S (47_fpu.md R730). -/
  | roundLS (fs fd : Reg)
  /-- ROUND.L.D (47_fpu.md R730). -/
  | roundLD (fs fd : Reg)
  /-- TRUNC.L.S (47_fpu.md R731). -/
  | truncLS (fs fd : Reg)
  /-- TRUNC.L.D (47_fpu.md R731). -/
  | truncLD (fs fd : Reg)
  /-- CEIL.L.S (47_fpu.md R732). -/
  | ceilLS (fs fd : Reg)
  /-- CEIL.L.D (47_fpu.md R732). -/
  | ceilLD (fs fd : Reg)
  /-- FLOOR.L.S (47_fpu.md R733). -/
  | floorLS (fs fd : Reg)
  /-- FLOOR.L.D (47_fpu.md R733). -/
  | floorLD (fs fd : Reg)
  /-- ROUND.W.S (47_fpu.md R734). -/
  | roundWS (fs fd : Reg)
  /-- ROUND.W.D (47_fpu.md R734). -/
  | roundWD (fs fd : Reg)
  /-- TRUNC.W.S (47_fpu.md R735). -/
  | truncWS (fs fd : Reg)
  /-- TRUNC.W.D (47_fpu.md R735). -/
  | truncWD (fs fd : Reg)
  /-- CEIL.W.S (47_fpu.md R736). -/
  | ceilWS (fs fd : Reg)
  /-- CEIL.W.D (47_fpu.md R736). -/
  | ceilWD (fs fd : Reg)
  /-- FLOOR.W.S (47_fpu.md R737). -/
  | floorWS (fs fd : Reg)
  /-- FLOOR.W.D (47_fpu.md R737). -/
  | floorWD (fs fd : Reg)
  /-- CVT.W.S (47_fpu.md R742). -/
  | cvtWS (fs fd : Reg)
  /-- CVT.W.D (47_fpu.md R742). -/
  | cvtWD (fs fd : Reg)
  /-- CVT.L.S (47_fpu.md R743). -/
  | cvtLS (fs fd : Reg)
  /-- CVT.L.D (47_fpu.md R743). -/
  | cvtLD (fs fd : Reg)
  /-- CVT.S.D (47_fpu.md R740). -/
  | cvtSD (fs fd : Reg)
  /-- CVT.S.W (47_fpu.md R740). -/
  | cvtSW (fs fd : Reg)
  /-- CVT.S.L (47_fpu.md R740). -/
  | cvtSL (fs fd : Reg)
  /-- CVT.D.S (47_fpu.md R741). -/
  | cvtDS (fs fd : Reg)
  /-- CVT.D.W (47_fpu.md R741). -/
  | cvtDW (fs fd : Reg)
  /-- CVT.D.L (47_fpu.md R741). -/
  | cvtDL (fs fd : Reg)
  /-- C.F.S (47_fpu.md R746). -/
  | cFS (ft fs : Reg)
  /-- C.F.D (47_fpu.md R746). -/
  | cFD (ft fs : Reg)
  /-- C.F.PS (48_fpu_ext.md R802). -/
  | cFPs (ft fs : Reg)
  /-- C.UN.S (47_fpu.md R747). -/
  | cUnS (ft fs : Reg)
  /-- C.UN.D (47_fpu.md R747). -/
  | cUnD (ft fs : Reg)
  /-- C.UN.PS (48_fpu_ext.md R803). -/
  | cUnPs (ft fs : Reg)
  /-- C.EQ.S (47_fpu.md R748). -/
  | cEqS (ft fs : Reg)
  /-- C.EQ.D (47_fpu.md R748). -/
  | cEqD (ft fs : Reg)
  /-- C.EQ.PS (48_fpu_ext.md R804). -/
  | cEqPs (ft fs : Reg)
  /-- C.UEQ.S (47_fpu.md R749). -/
  | cUeqS (ft fs : Reg)
  /-- C.UEQ.D (47_fpu.md R749). -/
  | cUeqD (ft fs : Reg)
  /-- C.UEQ.PS (48_fpu_ext.md R805). -/
  | cUeqPs (ft fs : Reg)
  /-- C.OLT.S (47_fpu.md R750). -/
  | cOltS (ft fs : Reg)
  /-- C.OLT.D (47_fpu.md R750). -/
  | cOltD (ft fs : Reg)
  /-- C.OLT.PS (48_fpu_ext.md R806). -/
  | cOltPs (ft fs : Reg)
  /-- C.ULT.S (47_fpu.md R751). -/
  | cUltS (ft fs : Reg)
  /-- C.ULT.D (47_fpu.md R751). -/
  | cUltD (ft fs : Reg)
  /-- C.ULT.PS (48_fpu_ext.md R807). -/
  | cUltPs (ft fs : Reg)
  /-- C.OLE.S (47_fpu.md R752). -/
  | cOleS (ft fs : Reg)
  /-- C.OLE.D (47_fpu.md R752). -/
  | cOleD (ft fs : Reg)
  /-- C.OLE.PS (48_fpu_ext.md R808). -/
  | cOlePs (ft fs : Reg)
  /-- C.ULE.S (47_fpu.md R753). -/
  | cUleS (ft fs : Reg)
  /-- C.ULE.D (47_fpu.md R753). -/
  | cUleD (ft fs : Reg)
  /-- C.ULE.PS (48_fpu_ext.md R809). -/
  | cUlePs (ft fs : Reg)
  /-- C.SF.S (47_fpu.md R754). -/
  | cSfS (ft fs : Reg)
  /-- C.SF.D (47_fpu.md R754). -/
  | cSfD (ft fs : Reg)
  /-- C.SF.PS (48_fpu_ext.md R810). -/
  | cSfPs (ft fs : Reg)
  /-- C.NGLE.S (47_fpu.md R755). -/
  | cNgleS (ft fs : Reg)
  /-- C.NGLE.D (47_fpu.md R755). -/
  | cNgleD (ft fs : Reg)
  /-- C.NGLE.PS (48_fpu_ext.md R811). -/
  | cNglePs (ft fs : Reg)
  /-- C.SEQ.S (47_fpu.md R756). -/
  | cSeqS (ft fs : Reg)
  /-- C.SEQ.D (47_fpu.md R756). -/
  | cSeqD (ft fs : Reg)
  /-- C.SEQ.PS (48_fpu_ext.md R812). -/
  | cSeqPs (ft fs : Reg)
  /-- C.NGL.S (47_fpu.md R757). -/
  | cNglS (ft fs : Reg)
  /-- C.NGL.D (47_fpu.md R757). -/
  | cNglD (ft fs : Reg)
  /-- C.NGL.PS (48_fpu_ext.md R813). -/
  | cNglPs (ft fs : Reg)
  /-- C.LT.S (47_fpu.md R758). -/
  | cLtS (ft fs : Reg)
  /-- C.LT.D (47_fpu.md R758). -/
  | cLtD (ft fs : Reg)
  /-- C.LT.PS (48_fpu_ext.md R814). -/
  | cLtPs (ft fs : Reg)
  /-- C.NGE.S (47_fpu.md R759). -/
  | cNgeS (ft fs : Reg)
  /-- C.NGE.D (47_fpu.md R759). -/
  | cNgeD (ft fs : Reg)
  /-- C.NGE.PS (48_fpu_ext.md R815). -/
  | cNgePs (ft fs : Reg)
  /-- C.LE.S (47_fpu.md R760). -/
  | cLeS (ft fs : Reg)
  /-- C.LE.D (47_fpu.md R760). -/
  | cLeD (ft fs : Reg)
  /-- C.LE.PS (48_fpu_ext.md R816). -/
  | cLePs (ft fs : Reg)
  /-- C.NGT.S (47_fpu.md R761). -/
  | cNgtS (ft fs : Reg)
  /-- C.NGT.D (47_fpu.md R761). -/
  | cNgtD (ft fs : Reg)
  /-- C.NGT.PS (48_fpu_ext.md R817). -/
  | cNgtPs (ft fs : Reg)
  /-- MFC1 (47_fpu.md R765). -/
  | mfc1 (rt fs : Reg)
  /-- DMFC1 (47_fpu.md R766). -/
  | dmfc1 (rt fs : Reg)
  /-- CFC1 (47_fpu.md R769). -/
  | cfc1 (rt fs : Reg)
  /-- MTC1 (47_fpu.md R767). -/
  | mtc1 (rt fs : Reg)
  /-- DMTC1 (47_fpu.md R768). -/
  | dmtc1 (rt fs : Reg)
  /-- CTC1 (47_fpu.md R770). -/
  | ctc1 (rt fs : Reg)
  /-- BC1F (47_fpu.md R773). -/
  | bc1f (offset : Imm16)
  /-- BC1T (47_fpu.md R774). -/
  | bc1t (offset : Imm16)
  /-- BC1FL (47_fpu.md R775). -/
  | bc1fl (offset : Imm16)
  /-- BC1TL (47_fpu.md R776). -/
  | bc1tl (offset : Imm16)
  /-- MADD.S (47_fpu.md R781). -/
  | maddS (ft fs fd : Reg)
  /-- MADD.D (47_fpu.md R781). -/
  | maddD (ft fs fd : Reg)
  /-- MADD.PS (48_fpu_ext.md R818). -/
  | maddPs (ft fs fd : Reg)
  /-- MSUB.S (47_fpu.md R782). -/
  | msubS (ft fs fd : Reg)
  /-- MSUB.D (47_fpu.md R782). -/
  | msubD (ft fs fd : Reg)
  /-- MSUB.PS (48_fpu_ext.md R819). -/
  | msubPs (ft fs fd : Reg)
  /-- NMADD.S (47_fpu.md R783). -/
  | nmaddS (ft fs fd : Reg)
  /-- NMADD.D (47_fpu.md R783). -/
  | nmaddD (ft fs fd : Reg)
  /-- NMADD.PS (48_fpu_ext.md R820). -/
  | nmaddPs (ft fs fd : Reg)
  /-- NMSUB.S (47_fpu.md R784). -/
  | nmsubS (ft fs fd : Reg)
  /-- NMSUB.D (47_fpu.md R784). -/
  | nmsubD (ft fs fd : Reg)
  /-- NMSUB.PS (48_fpu_ext.md R821). -/
  | nmsubPs (ft fs fd : Reg)
deriving DecidableEq, Repr

end Sys2Proof
end

