-- ==== Sys2Proof/WellFormed.lean ====
section
/-! DEFINITION. Well-formedness: what the spec asks of an instruction beyond its encoding. The
decoder accepts every word of the table; these are the checks on operands. -/

namespace Sys2Proof

/-- The CACHE operations Table 8-3 defines (46_cp0_privileged.md R680, R682). -/
def cacheOpDefined (opn : Reg) : Bool :=
  [0x00, 0x01, 0x05, 0x09, 0x11, 0x15, 0x19, 0x1D, 0x03, 0x07, 0x0B, 0x13, 0x17, 0x1B, 0x1F].contains opn.toNat

/-- A coprocessor-1 control register that exists (10_state.md R117). -/
def fcrDefined (fs : Reg) : Bool := fs == 0 || fs == 31

/-- The operands an instruction may have: a defined CACHE operation (R682), a control register that
exists (R117), `rd` different from `rs` for JALR (43_branch_jump.md R563), `rs` other than 31 for a
linking branch (R556). -/
def Instr.wellFormed : Instr → Bool
  | .lb _ _ _ => true
  | .lbu _ _ _ => true
  | .lh _ _ _ => true
  | .lhu _ _ _ => true
  | .lw _ _ _ => true
  | .lwu _ _ _ => true
  | .ld _ _ _ => true
  | .lwl _ _ _ => true
  | .lwr _ _ _ => true
  | .ldl _ _ _ => true
  | .ldr _ _ _ => true
  | .swl _ _ _ => true
  | .swr _ _ _ => true
  | .sdl _ _ _ => true
  | .sdr _ _ _ => true
  | .sb _ _ _ => true
  | .sh _ _ _ => true
  | .sw _ _ _ => true
  | .sd _ _ _ => true
  | .ll _ _ _ => true
  | .lld _ _ _ => true
  | .sc _ _ _ => true
  | .scd _ _ _ => true
  | .lwc1 _ _ _ => true
  | .ldc1 _ _ _ => true
  | .swc1 _ _ _ => true
  | .sdc1 _ _ _ => true
  | .sync => true
  | .addi _ _ _ => true
  | .daddi _ _ _ => true
  | .addiu _ _ _ => true
  | .daddiu _ _ _ => true
  | .slti _ _ _ => true
  | .sltiu _ _ _ => true
  | .andi _ _ _ => true
  | .ori _ _ _ => true
  | .xori _ _ _ => true
  | .lui _ _ => true
  | .add _ _ _ => true
  | .dadd _ _ _ => true
  | .addu _ _ _ => true
  | .daddu _ _ _ => true
  | .sub _ _ _ => true
  | .dsub _ _ _ => true
  | .subu _ _ _ => true
  | .dsubu _ _ _ => true
  | .slt _ _ _ => true
  | .sltu _ _ _ => true
  | .and _ _ _ => true
  | .or _ _ _ => true
  | .xor _ _ _ => true
  | .nor _ _ _ => true
  | .movz _ _ _ => true
  | .movn _ _ _ => true
  | .mult _ _ => true
  | .multu _ _ => true
  | .dmult _ _ => true
  | .dmultu _ _ => true
  | .div _ _ => true
  | .divu _ _ => true
  | .ddiv _ _ => true
  | .ddivu _ _ => true
  | .mfhi _ => true
  | .mthi _ => true
  | .mflo _ => true
  | .mtlo _ => true
  | .multg _ _ _ => true
  | .dmultg _ _ _ => true
  | .multug _ _ _ => true
  | .dmultug _ _ _ => true
  | .divg _ _ _ => true
  | .ddivg _ _ _ => true
  | .divug _ _ _ => true
  | .ddivug _ _ _ => true
  | .modg _ _ _ => true
  | .dmodg _ _ _ => true
  | .modug _ _ _ => true
  | .dmodug _ _ _ => true
  | .j _ => true
  | .jal _ => true
  | .jr _ => true
  | .jalr rs rd => rd != rs
  | .beq _ _ _ => true
  | .bne _ _ _ => true
  | .beql _ _ _ => true
  | .bnel _ _ _ => true
  | .blez _ _ => true
  | .bgtz _ _ => true
  | .blezl _ _ => true
  | .bgtzl _ _ => true
  | .bltz _ _ => true
  | .bgez _ _ => true
  | .bltzal rs _ => rs != 31
  | .bgezal rs _ => rs != 31
  | .bltzl _ _ => true
  | .bgezl _ _ => true
  | .bltzall rs _ => rs != 31
  | .bgezall rs _ => rs != 31
  | .sll _ _ _ => true
  | .srl _ _ _ => true
  | .sra _ _ _ => true
  | .dsll _ _ _ => true
  | .dsrl _ _ _ => true
  | .dsra _ _ _ => true
  | .dsll32 _ _ _ => true
  | .dsrl32 _ _ _ => true
  | .dsra32 _ _ _ => true
  | .sllv _ _ _ => true
  | .srlv _ _ _ => true
  | .srav _ _ _ => true
  | .dsllv _ _ _ => true
  | .dsrlv _ _ _ => true
  | .dsrav _ _ _ => true
  | .syscall _ => true
  | .brk _ => true
  | .tge _ _ _ => true
  | .tgeu _ _ _ => true
  | .tlt _ _ _ => true
  | .tltu _ _ _ => true
  | .teq _ _ _ => true
  | .tne _ _ _ => true
  | .tgei _ _ => true
  | .tgeiu _ _ => true
  | .tlti _ _ => true
  | .tltiu _ _ => true
  | .teqi _ _ => true
  | .tnei _ _ => true
  | .mfc0 _ _ => true
  | .dmfc0 _ _ => true
  | .mtc0 _ _ => true
  | .dmtc0 _ _ => true
  | .tlbp => true
  | .tlbr => true
  | .tlbwi => true
  | .tlbwr => true
  | .eret => true
  | .cache _ opn _ => cacheOpDefined opn
  | .addS _ _ _ => true
  | .addD _ _ _ => true
  | .addPs _ _ _ => true
  | .subS _ _ _ => true
  | .subD _ _ _ => true
  | .subPs _ _ _ => true
  | .mulS _ _ _ => true
  | .mulD _ _ _ => true
  | .mulPs _ _ _ => true
  | .divS _ _ _ => true
  | .divD _ _ _ => true
  | .sqrtS _ _ => true
  | .sqrtD _ _ => true
  | .absS _ _ => true
  | .absD _ _ => true
  | .absPs _ _ => true
  | .movS _ _ => true
  | .movD _ _ => true
  | .movPs _ _ => true
  | .negS _ _ => true
  | .negD _ _ => true
  | .negPs _ _ => true
  | .roundLS _ _ => true
  | .roundLD _ _ => true
  | .truncLS _ _ => true
  | .truncLD _ _ => true
  | .ceilLS _ _ => true
  | .ceilLD _ _ => true
  | .floorLS _ _ => true
  | .floorLD _ _ => true
  | .roundWS _ _ => true
  | .roundWD _ _ => true
  | .truncWS _ _ => true
  | .truncWD _ _ => true
  | .ceilWS _ _ => true
  | .ceilWD _ _ => true
  | .floorWS _ _ => true
  | .floorWD _ _ => true
  | .cvtWS _ _ => true
  | .cvtWD _ _ => true
  | .cvtLS _ _ => true
  | .cvtLD _ _ => true
  | .cvtSD _ _ => true
  | .cvtSW _ _ => true
  | .cvtSL _ _ => true
  | .cvtDS _ _ => true
  | .cvtDW _ _ => true
  | .cvtDL _ _ => true
  | .cFS _ _ => true
  | .cFD _ _ => true
  | .cFPs _ _ => true
  | .cUnS _ _ => true
  | .cUnD _ _ => true
  | .cUnPs _ _ => true
  | .cEqS _ _ => true
  | .cEqD _ _ => true
  | .cEqPs _ _ => true
  | .cUeqS _ _ => true
  | .cUeqD _ _ => true
  | .cUeqPs _ _ => true
  | .cOltS _ _ => true
  | .cOltD _ _ => true
  | .cOltPs _ _ => true
  | .cUltS _ _ => true
  | .cUltD _ _ => true
  | .cUltPs _ _ => true
  | .cOleS _ _ => true
  | .cOleD _ _ => true
  | .cOlePs _ _ => true
  | .cUleS _ _ => true
  | .cUleD _ _ => true
  | .cUlePs _ _ => true
  | .cSfS _ _ => true
  | .cSfD _ _ => true
  | .cSfPs _ _ => true
  | .cNgleS _ _ => true
  | .cNgleD _ _ => true
  | .cNglePs _ _ => true
  | .cSeqS _ _ => true
  | .cSeqD _ _ => true
  | .cSeqPs _ _ => true
  | .cNglS _ _ => true
  | .cNglD _ _ => true
  | .cNglPs _ _ => true
  | .cLtS _ _ => true
  | .cLtD _ _ => true
  | .cLtPs _ _ => true
  | .cNgeS _ _ => true
  | .cNgeD _ _ => true
  | .cNgePs _ _ => true
  | .cLeS _ _ => true
  | .cLeD _ _ => true
  | .cLePs _ _ => true
  | .cNgtS _ _ => true
  | .cNgtD _ _ => true
  | .cNgtPs _ _ => true
  | .mfc1 _ _ => true
  | .dmfc1 _ _ => true
  | .cfc1 _ fs => fcrDefined fs
  | .mtc1 _ _ => true
  | .dmtc1 _ _ => true
  | .ctc1 _ fs => fcrDefined fs
  | .bc1f _ => true
  | .bc1t _ => true
  | .bc1fl _ => true
  | .bc1tl _ => true
  | .maddS _ _ _ => true
  | .maddD _ _ _ => true
  | .maddPs _ _ _ => true
  | .msubS _ _ _ => true
  | .msubD _ _ _ => true
  | .msubPs _ _ _ => true
  | .nmaddS _ _ _ => true
  | .nmaddD _ _ _ => true
  | .nmaddPs _ _ _ => true
  | .nmsubS _ _ _ => true
  | .nmsubD _ _ _ => true
  | .nmsubPs _ _ _ => true

end Sys2Proof
end

