-- ==== Sys2Proof/Machine/Privileged.lean ====
section
/-! DEFINITION. CP0 moves, TLB instructions, ERET and CACHE (46_cp0_privileged.md). -/

namespace Sys2Proof.Machine

/-- A read of CP0: registers 24 and 25 in every mode, the others as R150 says (R665). -/
def readCp0 (rd : Reg) (s : State) (r : Res) : Res :=
  if rd = 24 || rd = 25 then r else withCp0 s r

/-- `CPR[rd] <- v`, or the refusal the register's rule names (46_cp0_privileged.md R662, R663). -/
def moveToCp0 (rd : Reg) (v : Word) (s : State) : Res :=
  match s.cp0Write rd v with
  | .ok s1 => .next (advance s1)
  | .error e => .refused e

/-- The seven masks of Table 5-6 (11_cp0_registers.md R163). -/
def legalMask (m : BitVec 12) : Bool :=
  m == 0 || m == 0x3 || m == 0xF || m == 0x3F || m == 0xFF || m == 0x3FF || m == 0xFFF

/-- One page of an entry from an EntryLo register (R671). -/
def pageOfLo (p : ChipParams) (lo : Word) : TlbPage :=
  { pfn := lo.extractLsb' 6 28, c := lo.extractLsb' 3 3, d := lo.getLsbD 2, v := lo.getLsbD 1
    e := lo.getLsbD p.entryLoEBit }

/-- An EntryLo register from a page and the entry's G (R670). -/
def loOfPage (p : ChipParams) (g : Bool) (x : TlbPage) : Word :=
  setBit (x.pfn ++ x.c ++ BitVec.ofBool x.d ++ BitVec.ofBool x.v ++ BitVec.ofBool g |>.setWidth 64)
    p.entryLoEBit x.e

/-- The entry PageMask, EntryHi and EntryLo describe (R671). -/
def entryOfCp0 (s : State) : TlbEntry :=
  { mask := s.maskField
    r := s.cp0.entryHi.extractLsb' 62 2
    vpn2 := s.cp0.entryHi.extractLsb' 13 27 &&& ~~~(s.maskField.setWidth 27)
    g := s.cp0.entryLo0.getLsbD 0 && s.cp0.entryLo1.getLsbD 0
    asid := s.asid
    even := pageOfLo s.params s.cp0.entryLo0
    odd := pageOfLo s.params s.cp0.entryLo1 }

/-- Some address matches both entries under one ASID (20_memory.md R279). -/
def overlaps (a b : TlbEntry) : Bool :=
  a.r == b.r && (a.g || b.g || a.asid == b.asid)
    && (a.vpn2 ^^^ b.vpn2) &&& ~~~((a.mask ||| b.mask).setWidth 27) == 0

/-- TLBWI and TLBWR: entry `i` takes the CP0 registers; an illegal mask or a second match stops the
machine (R671, R672, 11_cp0_registers.md R164, 20_memory.md R279). -/
def writeTlb (i : BitVec 6) (s : State) : Res :=
  let e := entryOfCp0 s
  if !legalMask e.mask then .fault .tlbIllegalMask
  else if (List.finRange 64).any fun j => j.val != i.toNat && overlaps e s.tlb[j] then
    .fault .tlbMultipleMatch
  else .next (advance { s with tlb := s.tlb.set i.toNat e i.isLt })

/-- TLBR: the CP0 registers take the entry Index names (R670, C27). -/
def readTlb (s : State) : State :=
  let e := s.tlb[(s.cp0.index.extractLsb' 0 6).toNat]'(s.cp0.index.extractLsb' 0 6).isLt
  { s with cp0 := { s.cp0 with
      pageMask := (e.mask ++ (0 : BitVec 13)).setWidth 32
      entryHi := e.r ++ (0 : BitVec 22) ++ (e.vpn2 &&& ~~~(e.mask.setWidth 27)) ++ (0 : BitVec 5) ++ e.asid
      entryLo1 := loOfPage s.params e.g e.odd
      entryLo0 := loOfPage s.params e.g e.even } }

/-- TLBP: the entry that matches EntryHi (R669). -/
def probeTlb (s : State) : Res :=
  match tlbHits s s.cp0.entryHi with
  | [] => .next (advance { s with cp0 := { s.cp0 with
      index := (0x80000000 : BitVec 32) ||| (draw 6 .probeMiss s.tick 0).setWidth 32 } })
  | [i] => .next (advance { s with cp0 := { s.cp0 with index := BitVec.ofNat 32 i.val } })
  | _ => .fault .tlbMultipleMatch

/-- User mode with Diagnostic.U-Mode = 1 (11_cp0_registers.md R211). -/
def State.userCache (s : State) : Bool := s.mode == some .user && s.cp0.diag.getLsbD s.params.diagUMode

/-- The Hit operations (R211, D15). -/
def cacheHitOp (opn : Reg) : Bool := opn == 0x11 || opn == 0x15 || opn == 0x13 || opn == 0x17

/-- MFC0 (R660): `rt` takes the low word of `CPR[rd]`, sign-extended; 24 and 25 in every mode (R665). -/
def execMfc0 (rt rd : Reg) (s : State) : Res :=
  readCp0 rd s (writeNext rt (sext32 (lo32 (s.cp0Read rd))) s)

/-- DMFC0 (R661): `rt` takes all of `CPR[rd]`; 24 and 25 in every mode (R665). -/
def execDmfc0 (rt rd : Reg) (s : State) : Res :=
  readCp0 rd s (writeNext rt (s.cp0Read rd) s)

/-- MTC0 (R662): `CPR[rd]` takes the low word of `rt`, sign-extended for a 64-bit register (D30). -/
def execMtc0 (rt rd : Reg) (s : State) : Res :=
  withCp0 s (moveToCp0 rd (sext32 (lo32 (s.reg rt))) s)

/-- DMTC0 (R663): `CPR[rd]` takes `rt`. -/
def execDmtc0 (rt rd : Reg) (s : State) : Res :=
  withCp0 s (moveToCp0 rd (s.reg rt) s)

/-- TLBP (R669): Index takes the matching entry, or P with a free low field; two matches stop the machine. -/
def execTlbp (s : State) : Res :=
  withCp0 s (probeTlb s)

/-- TLBR (R670): PageMask, EntryHi and EntryLo take the entry Index names. -/
def execTlbr (s : State) : Res :=
  withCp0 s (.next (advance (readTlb s)))

/-- TLBWI (R671): the entry Index names takes PageMask, EntryHi and EntryLo. -/
def execTlbwi (s : State) : Res :=
  withCp0 s (writeTlb (s.cp0.index.extractLsb' 0 6) s)

/-- TLBWR (R672): the entry Random names takes PageMask, EntryHi and EntryLo. -/
def execTlbwr (s : State) : Res :=
  withCp0 s (writeTlb s.cp0.random s)

/-- ERET (R673): return from exception; in a delay slot it stops (43_branch_jump.md R555). -/
def execEret (s : State) : Res :=
  withCp0 s (if s.inSlot then .fault .branchInDelaySlot else .next (returnFromException s))

/-- CACHE (R680): the operation `opn` on the translated address; user mode may run the Hit forms
with U-Mode (R681). An operation that is not listed stops (R682) before the address is translated.
DESIGN CHOICE, log 20. -/
def execCache (base opn : Reg) (offset : Imm16) (s : State) : Res :=
  if s.cp0Usable || (s.userCache && cacheHitOp opn) then
    if !cacheOpDefined opn then .fault .cacheOpUndefined
    else
      let va := s.ea base offset
      match translate s .load true va with
      | .exc e => raise e s
      | .fault f => .fault f
      | .ok pa c =>
        if c = 3 then
          afterMem s (cacheOp s.ctx opn va pa s.cp0.tagLo s.cp0.tagHi s.mem) fun t s1 =>
            .next (advance { s1 with cp0 := { s1.cp0 with tagLo := t.1, tagHi := t.2 } })
        else .fault .cacheOnUncached
  else raise (.coprocessor 0) s

end Sys2Proof.Machine
end

