-- ==== Sys2Proof/Machine/Shift.lean ====
section
/-! DEFINITION. Shifts (44_shift.md). -/

namespace Sys2Proof.Machine

/-- A variable count of a 32-bit shift (44_shift.md R600). -/
def count5 (x : Word) : Nat := (x.extractLsb' 0 5).toNat
/-- A variable count of a 64-bit shift (44_shift.md R600). -/
def count6 (x : Word) : Nat := (x.extractLsb' 0 6).toNat

/-- SLL (R602): the low word shifted by `sa`, sign-extended. -/
def execSll (rt rd sa : Reg) (s : State) : Res :=
  writeNext rd (sext32 (lo32 (s.reg rt) <<< sa.toNat)) s

/-- SRL (R603): the low word shifted by `sa`, sign-extended. -/
def execSrl (rt rd sa : Reg) (s : State) : Res :=
  writeNext rd (sext32 (lo32 (s.reg rt) >>> sa.toNat)) s

/-- SRA (R604): the low word shifted by `sa`, sign-extended. -/
def execSra (rt rd sa : Reg) (s : State) : Res :=
  writeNext rd (sext32 ((lo32 (s.reg rt)).sshiftRight sa.toNat)) s

/-- DSLL (R608): the doubleword shifted by `sa`. -/
def execDsll (rt rd sa : Reg) (s : State) : Res :=
  writeNext rd (s.reg rt <<< sa.toNat) s

/-- DSRL (R609): the doubleword shifted by `sa`. -/
def execDsrl (rt rd sa : Reg) (s : State) : Res :=
  writeNext rd (s.reg rt >>> sa.toNat) s

/-- DSRA (R610): the doubleword shifted by `sa`. -/
def execDsra (rt rd sa : Reg) (s : State) : Res :=
  writeNext rd ((s.reg rt).sshiftRight sa.toNat) s

/-- DSLL32 (R614): the doubleword shifted by `sa + 32`. -/
def execDsll32 (rt rd sa : Reg) (s : State) : Res :=
  writeNext rd (s.reg rt <<< (sa.toNat + 32)) s

/-- DSRL32 (R615): the doubleword shifted by `sa + 32`. -/
def execDsrl32 (rt rd sa : Reg) (s : State) : Res :=
  writeNext rd (s.reg rt >>> (sa.toNat + 32)) s

/-- DSRA32 (R616): the doubleword shifted by `sa + 32`. -/
def execDsra32 (rt rd sa : Reg) (s : State) : Res :=
  writeNext rd ((s.reg rt).sshiftRight (sa.toNat + 32)) s

/-- SLLV (R605): the low word shifted by `rs[4:0]`, sign-extended. -/
def execSllv (rs rt rd : Reg) (s : State) : Res :=
  writeNext rd (sext32 (lo32 (s.reg rt) <<< (count5 (s.reg rs)))) s

/-- SRLV (R606): the low word shifted by `rs[4:0]`, sign-extended. -/
def execSrlv (rs rt rd : Reg) (s : State) : Res :=
  writeNext rd (sext32 (lo32 (s.reg rt) >>> (count5 (s.reg rs)))) s

/-- SRAV (R607): the low word shifted by `rs[4:0]`, sign-extended. -/
def execSrav (rs rt rd : Reg) (s : State) : Res :=
  writeNext rd (sext32 ((lo32 (s.reg rt)).sshiftRight (count5 (s.reg rs)))) s

/-- DSLLV (R611): the doubleword shifted by `rs[5:0]`. -/
def execDsllv (rs rt rd : Reg) (s : State) : Res :=
  writeNext rd (s.reg rt <<< (count6 (s.reg rs))) s

/-- DSRLV (R612): the doubleword shifted by `rs[5:0]`. -/
def execDsrlv (rs rt rd : Reg) (s : State) : Res :=
  writeNext rd (s.reg rt >>> (count6 (s.reg rs))) s

/-- DSRAV (R613): the doubleword shifted by `rs[5:0]`. -/
def execDsrav (rs rt rd : Reg) (s : State) : Res :=
  writeNext rd ((s.reg rt).sshiftRight (count6 (s.reg rs))) s

end Sys2Proof.Machine
end

