-- ==== Sys2Proof/Machine/Trap.lean ====
section
/-! DEFINITION. System call, breakpoint and conditional traps (45_special_trap.md). -/

namespace Sys2Proof.Machine

/-- Take Trap when the condition holds, else go on (45_special_trap.md R633). -/
def trapIf (c : Bool) (s : State) : Res := if c then raise .trap s else .next (advance s)

/-- SYSCALL (R631): System call; the code is for software. -/
def execSyscall (_code20 : BitVec 20) (s : State) : Res :=
  raise .syscall s

/-- BREAK (R632): Breakpoint; the code is for software. -/
def execBrk (_code20 : BitVec 20) (s : State) : Res :=
  raise .breakpoint s

/-- TGE (R634): Trap when the comparison holds. -/
def execTge (rs rt : Reg) (_code10 : BitVec 10) (s : State) : Res :=
  trapIf (!(s.reg rs).slt (s.reg rt)) s

/-- TGEU (R635): Trap when the comparison holds. -/
def execTgeu (rs rt : Reg) (_code10 : BitVec 10) (s : State) : Res :=
  trapIf (!(s.reg rs).ult (s.reg rt)) s

/-- TLT (R636): Trap when the comparison holds. -/
def execTlt (rs rt : Reg) (_code10 : BitVec 10) (s : State) : Res :=
  trapIf ((s.reg rs).slt (s.reg rt)) s

/-- TLTU (R637): Trap when the comparison holds. -/
def execTltu (rs rt : Reg) (_code10 : BitVec 10) (s : State) : Res :=
  trapIf ((s.reg rs).ult (s.reg rt)) s

/-- TEQ (R638): Trap when the comparison holds. -/
def execTeq (rs rt : Reg) (_code10 : BitVec 10) (s : State) : Res :=
  trapIf (s.reg rs == (s.reg rt)) s

/-- TNE (R639): Trap when the comparison holds. -/
def execTne (rs rt : Reg) (_code10 : BitVec 10) (s : State) : Res :=
  trapIf (s.reg rs != (s.reg rt)) s

/-- TGEI (R640): Trap when the comparison with the sign-extended immediate holds. -/
def execTgei (rs : Reg) (imm : Imm16) (s : State) : Res :=
  trapIf (!(s.reg rs).slt (sext16 imm)) s

/-- TGEIU (R641): Trap when the comparison with the sign-extended immediate holds. -/
def execTgeiu (rs : Reg) (imm : Imm16) (s : State) : Res :=
  trapIf (!(s.reg rs).ult (sext16 imm)) s

/-- TLTI (R642): Trap when the comparison with the sign-extended immediate holds. -/
def execTlti (rs : Reg) (imm : Imm16) (s : State) : Res :=
  trapIf ((s.reg rs).slt (sext16 imm)) s

/-- TLTIU (R643): Trap when the comparison with the sign-extended immediate holds. -/
def execTltiu (rs : Reg) (imm : Imm16) (s : State) : Res :=
  trapIf ((s.reg rs).ult (sext16 imm)) s

/-- TEQI (R644): Trap when the comparison with the sign-extended immediate holds. -/
def execTeqi (rs : Reg) (imm : Imm16) (s : State) : Res :=
  trapIf (s.reg rs == (sext16 imm)) s

/-- TNEI (R645): Trap when the comparison with the sign-extended immediate holds. -/
def execTnei (rs : Reg) (imm : Imm16) (s : State) : Res :=
  trapIf (s.reg rs != (sext16 imm)) s

end Sys2Proof.Machine
end

