-- ==== Sys2Proof/Decode.lean ====
section
/-! DEFINITION. Decoding: a total function from words (and bytes) to an instruction or a named
refusal, following the maps of 30_encoding.md R360 to R367 and the reserved encodings of R370 to R391;
then the encoder, written from the same tables. The compiled runtime caps constructor tags at 244 and
`Instr` has 255, so `decode` and what calls it carry `noncomputable`: they are plain functions that the
kernel evaluates. -/

namespace Sys2Proof

/-- The unit whose usability is checked before anything else in the word (30_encoding.md R390). -/
inductive CopClass where
  /-- No coprocessor: nothing is checked. -/
  | base
  /-- COP0: Cause.CE = 0. -/
  | cop0
  /-- COP1, the MADD family included: Cause.CE = 1. -/
  | cop1
deriving DecidableEq, Repr

/-- Why a word is no instruction of the table; the step turns each into what 30_encoding.md says. -/
inductive DecodeError where
  /-- ReservedInstruction at once (R388, R391 for COP1X). -/
  | reserved
  /-- A COP0 word with a reserved `rs` or CO function (R390). -/
  | cop0Reserved
  /-- A COP1 or MADD-family word with an unlisted fmt, `rs` or funct (R391). -/
  | cop1Unlisted
  /-- A COP2, LWC2, LDC2, SWC2 or SDC2 word (R391). -/
  | cop2
  /-- A field the format fixes to zero is not zero (R371). -/
  | mustBeZero (unit : CopClass)
  /-- Fewer than four bytes. -/
  | truncated
deriving DecidableEq, Repr

/-- `op = I[31:26]` (R351). -/
def fOp (w : BitVec 32) : BitVec 6 := w.extractLsb' 26 6
/-- `rs = base = fmt = I[25:21]` (R351, R352). -/
def fRs (w : BitVec 32) : Reg := w.extractLsb' 21 5
/-- `rt = ft = op5 = I[20:16]` (R351, R352). -/
def fRt (w : BitVec 32) : Reg := w.extractLsb' 16 5
/-- `rd = fs = I[15:11]` (R351, R352). -/
def fRd (w : BitVec 32) : Reg := w.extractLsb' 11 5
/-- `sa = fd = I[10:6]` (R351, R352). -/
def fSa (w : BitVec 32) : Reg := w.extractLsb' 6 5
/-- `funct = I[5:0]` (R351). -/
def fFn (w : BitVec 32) : BitVec 6 := w.extractLsb' 0 6
/-- `imm = offset = I[15:0]` (R351). -/
def fImm (w : BitVec 32) : Imm16 := w.extractLsb' 0 16
/-- `target = I[25:0]` (R351). -/
def fTarget (w : BitVec 32) : BitVec 26 := w.extractLsb' 0 26
/-- `code = I[25:6]` of SYSCALL and BREAK (R352). -/
def fCode20 (w : BitVec 32) : BitVec 20 := w.extractLsb' 6 20
/-- `code = I[15:6]` of the register traps (45_special_trap.md R633). -/
def fCode10 (w : BitVec 32) : BitVec 10 := w.extractLsb' 6 10

/-- The fields a format requires to be zero (R371). -/
def fixedZero (zero : Bool) (unit : CopClass) (i : Instr) : Except DecodeError Instr :=
  if zero then .ok i else .error (.mustBeZero unit)

/-- The SPECIAL map (R361). -/
def decodeSpecial (w : BitVec 32) : Except DecodeError Instr :=
  match (fFn w).toNat with
  | 0 => fixedZero (fRs w == 0) .base (.sll (fRt w) (fRd w) (fSa w))
  | 2 => fixedZero (fRs w == 0) .base (.srl (fRt w) (fRd w) (fSa w))
  | 3 => fixedZero (fRs w == 0) .base (.sra (fRt w) (fRd w) (fSa w))
  | 4 => fixedZero (fSa w == 0) .base (.sllv (fRs w) (fRt w) (fRd w))
  | 6 => fixedZero (fSa w == 0) .base (.srlv (fRs w) (fRt w) (fRd w))
  | 7 => fixedZero (fSa w == 0) .base (.srav (fRs w) (fRt w) (fRd w))
  | 8 => fixedZero (fRt w == 0 && fRd w == 0 && fSa w == 0) .base (.jr (fRs w))
  | 9 => fixedZero (fRt w == 0 && fSa w == 0) .base (.jalr (fRs w) (fRd w))
  | 10 => fixedZero (fSa w == 0) .base (.movz (fRs w) (fRt w) (fRd w))
  | 11 => fixedZero (fSa w == 0) .base (.movn (fRs w) (fRt w) (fRd w))
  | 12 => .ok (.syscall (fCode20 w))
  | 13 => .ok (.brk (fCode20 w))
  | 15 => fixedZero (fRs w == 0 && fRt w == 0 && fRd w == 0 && fSa w == 0) .base .sync
  | 16 => fixedZero (fRs w == 0 && fRt w == 0 && fSa w == 0) .base (.mfhi (fRd w))
  | 17 => fixedZero (fRt w == 0 && fRd w == 0 && fSa w == 0) .base (.mthi (fRs w))
  | 18 => fixedZero (fRs w == 0 && fRt w == 0 && fSa w == 0) .base (.mflo (fRd w))
  | 19 => fixedZero (fRt w == 0 && fRd w == 0 && fSa w == 0) .base (.mtlo (fRs w))
  | 20 => fixedZero (fSa w == 0) .base (.dsllv (fRs w) (fRt w) (fRd w))
  | 22 => fixedZero (fSa w == 0) .base (.dsrlv (fRs w) (fRt w) (fRd w))
  | 23 => fixedZero (fSa w == 0) .base (.dsrav (fRs w) (fRt w) (fRd w))
  | 24 => fixedZero (fRd w == 0 && fSa w == 0) .base (.mult (fRs w) (fRt w))
  | 25 => fixedZero (fRd w == 0 && fSa w == 0) .base (.multu (fRs w) (fRt w))
  | 26 => fixedZero (fRd w == 0 && fSa w == 0) .base (.div (fRs w) (fRt w))
  | 27 => fixedZero (fRd w == 0 && fSa w == 0) .base (.divu (fRs w) (fRt w))
  | 28 => fixedZero (fRd w == 0 && fSa w == 0) .base (.dmult (fRs w) (fRt w))
  | 29 => fixedZero (fRd w == 0 && fSa w == 0) .base (.dmultu (fRs w) (fRt w))
  | 30 => fixedZero (fRd w == 0 && fSa w == 0) .base (.ddiv (fRs w) (fRt w))
  | 31 => fixedZero (fRd w == 0 && fSa w == 0) .base (.ddivu (fRs w) (fRt w))
  | 32 => fixedZero (fSa w == 0) .base (.add (fRs w) (fRt w) (fRd w))
  | 33 => fixedZero (fSa w == 0) .base (.addu (fRs w) (fRt w) (fRd w))
  | 34 => fixedZero (fSa w == 0) .base (.sub (fRs w) (fRt w) (fRd w))
  | 35 => fixedZero (fSa w == 0) .base (.subu (fRs w) (fRt w) (fRd w))
  | 36 => fixedZero (fSa w == 0) .base (.and (fRs w) (fRt w) (fRd w))
  | 37 => fixedZero (fSa w == 0) .base (.or (fRs w) (fRt w) (fRd w))
  | 38 => fixedZero (fSa w == 0) .base (.xor (fRs w) (fRt w) (fRd w))
  | 39 => fixedZero (fSa w == 0) .base (.nor (fRs w) (fRt w) (fRd w))
  | 42 => fixedZero (fSa w == 0) .base (.slt (fRs w) (fRt w) (fRd w))
  | 43 => fixedZero (fSa w == 0) .base (.sltu (fRs w) (fRt w) (fRd w))
  | 44 => fixedZero (fSa w == 0) .base (.dadd (fRs w) (fRt w) (fRd w))
  | 45 => fixedZero (fSa w == 0) .base (.daddu (fRs w) (fRt w) (fRd w))
  | 46 => fixedZero (fSa w == 0) .base (.dsub (fRs w) (fRt w) (fRd w))
  | 47 => fixedZero (fSa w == 0) .base (.dsubu (fRs w) (fRt w) (fRd w))
  | 48 => .ok (.tge (fRs w) (fRt w) (fCode10 w))
  | 49 => .ok (.tgeu (fRs w) (fRt w) (fCode10 w))
  | 50 => .ok (.tlt (fRs w) (fRt w) (fCode10 w))
  | 51 => .ok (.tltu (fRs w) (fRt w) (fCode10 w))
  | 52 => .ok (.teq (fRs w) (fRt w) (fCode10 w))
  | 54 => .ok (.tne (fRs w) (fRt w) (fCode10 w))
  | 56 => fixedZero (fRs w == 0) .base (.dsll (fRt w) (fRd w) (fSa w))
  | 58 => fixedZero (fRs w == 0) .base (.dsrl (fRt w) (fRd w) (fSa w))
  | 59 => fixedZero (fRs w == 0) .base (.dsra (fRt w) (fRd w) (fSa w))
  | 60 => fixedZero (fRs w == 0) .base (.dsll32 (fRt w) (fRd w) (fSa w))
  | 62 => fixedZero (fRs w == 0) .base (.dsrl32 (fRt w) (fRd w) (fSa w))
  | 63 => fixedZero (fRs w == 0) .base (.dsra32 (fRt w) (fRd w) (fSa w))
  | _ => .error .reserved

/-- The REGIMM map (R362). -/
def decodeRegimm (w : BitVec 32) : Except DecodeError Instr :=
  match (fRt w).toNat with
  | 0 => .ok (.bltz (fRs w) (fImm w))
  | 1 => .ok (.bgez (fRs w) (fImm w))
  | 2 => .ok (.bltzl (fRs w) (fImm w))
  | 3 => .ok (.bgezl (fRs w) (fImm w))
  | 8 => .ok (.tgei (fRs w) (fImm w))
  | 9 => .ok (.tgeiu (fRs w) (fImm w))
  | 10 => .ok (.tlti (fRs w) (fImm w))
  | 11 => .ok (.tltiu (fRs w) (fImm w))
  | 12 => .ok (.teqi (fRs w) (fImm w))
  | 14 => .ok (.tnei (fRs w) (fImm w))
  | 16 => .ok (.bltzal (fRs w) (fImm w))
  | 17 => .ok (.bgezal (fRs w) (fImm w))
  | 18 => .ok (.bltzall (fRs w) (fImm w))
  | 19 => .ok (.bgezall (fRs w) (fImm w))
  | _ => .error .reserved

/-- The CO group of COP0, selected by funct (R363). A reserved funct with a non-zero bit in [24:6] is
ReservedInstruction (R390) and not the refusal of R371, because the funct is looked at first.
DESIGN CHOICE, log 31. -/
def decodeCo (w : BitVec 32) : Except DecodeError Instr :=
  let i := fRs w == 16 && fRt w == 0 && fRd w == 0 && fSa w == 0
  match (fFn w).toNat with
  | 1 => fixedZero i .cop0 .tlbr
  | 2 => fixedZero i .cop0 .tlbwi
  | 6 => fixedZero i .cop0 .tlbwr
  | 8 => fixedZero i .cop0 .tlbp
  | 24 => fixedZero i .cop0 .eret
  | _ => .error .cop0Reserved

/-- A read of CP0 24 or 25 is usable in every mode (11_cp0_registers.md R224). -/
def moveClass (rd : Reg) : CopClass := if rd == 24 || rd == 25 then .base else .cop0

/-- The COP0 map (R363): bits [10:0] of the moves are zero. -/
def decodeCop0 (w : BitVec 32) : Except DecodeError Instr :=
  if 16 ≤ (fRs w).toNat then decodeCo w
  else match (fRs w).toNat with
  | 0 => fixedZero (fSa w == 0 && fFn w == 0) (moveClass (fRd w)) (.mfc0 (fRt w) (fRd w))
  | 1 => fixedZero (fSa w == 0 && fFn w == 0) (moveClass (fRd w)) (.dmfc0 (fRt w) (fRd w))
  | 4 => fixedZero (fSa w == 0 && fFn w == 0) .cop0 (.mtc0 (fRt w) (fRd w))
  | 5 => fixedZero (fSa w == 0 && fFn w == 0) .cop0 (.dmtc0 (fRt w) (fRd w))
  | _ => .error .cop0Reserved

/-- The BC1 group (R364, 47_fpu.md R772). -/
def decodeBc1 (w : BitVec 32) : Except DecodeError Instr :=
  match (fRt w).toNat with
  | 0 => .ok (.bc1f (fImm w))
  | 1 => .ok (.bc1t (fImm w))
  | 2 => .ok (.bc1fl (fImm w))
  | 3 => .ok (.bc1tl (fImm w))
  | _ => .error (.mustBeZero .cop1)

/-- COP1 arithmetic with fmt S (R365, 47_fpu.md R720, 48_fpu_ext.md R792). -/
def decodeFmtS (w : BitVec 32) : Except DecodeError Instr :=
  match (fFn w).toNat with
  | 0 => .ok (.addS (fRt w) (fRd w) (fSa w))
  | 1 => .ok (.subS (fRt w) (fRd w) (fSa w))
  | 2 => .ok (.mulS (fRt w) (fRd w) (fSa w))
  | 3 => .ok (.divS (fRt w) (fRd w) (fSa w))
  | 4 => fixedZero (fRt w == 0) .cop1 (.sqrtS (fRd w) (fSa w))
  | 5 => fixedZero (fRt w == 0) .cop1 (.absS (fRd w) (fSa w))
  | 6 => fixedZero (fRt w == 0) .cop1 (.movS (fRd w) (fSa w))
  | 7 => fixedZero (fRt w == 0) .cop1 (.negS (fRd w) (fSa w))
  | 8 => fixedZero (fRt w == 0) .cop1 (.roundLS (fRd w) (fSa w))
  | 9 => fixedZero (fRt w == 0) .cop1 (.truncLS (fRd w) (fSa w))
  | 10 => fixedZero (fRt w == 0) .cop1 (.ceilLS (fRd w) (fSa w))
  | 11 => fixedZero (fRt w == 0) .cop1 (.floorLS (fRd w) (fSa w))
  | 12 => fixedZero (fRt w == 0) .cop1 (.roundWS (fRd w) (fSa w))
  | 13 => fixedZero (fRt w == 0) .cop1 (.truncWS (fRd w) (fSa w))
  | 14 => fixedZero (fRt w == 0) .cop1 (.ceilWS (fRd w) (fSa w))
  | 15 => fixedZero (fRt w == 0) .cop1 (.floorWS (fRd w) (fSa w))
  | 33 => fixedZero (fRt w == 0) .cop1 (.cvtDS (fRd w) (fSa w))
  | 36 => fixedZero (fRt w == 0) .cop1 (.cvtWS (fRd w) (fSa w))
  | 37 => fixedZero (fRt w == 0) .cop1 (.cvtLS (fRd w) (fSa w))
  | 48 => fixedZero (fSa w == 0) .cop1 (.cFS (fRt w) (fRd w))
  | 49 => fixedZero (fSa w == 0) .cop1 (.cUnS (fRt w) (fRd w))
  | 50 => fixedZero (fSa w == 0) .cop1 (.cEqS (fRt w) (fRd w))
  | 51 => fixedZero (fSa w == 0) .cop1 (.cUeqS (fRt w) (fRd w))
  | 52 => fixedZero (fSa w == 0) .cop1 (.cOltS (fRt w) (fRd w))
  | 53 => fixedZero (fSa w == 0) .cop1 (.cUltS (fRt w) (fRd w))
  | 54 => fixedZero (fSa w == 0) .cop1 (.cOleS (fRt w) (fRd w))
  | 55 => fixedZero (fSa w == 0) .cop1 (.cUleS (fRt w) (fRd w))
  | 56 => fixedZero (fSa w == 0) .cop1 (.cSfS (fRt w) (fRd w))
  | 57 => fixedZero (fSa w == 0) .cop1 (.cNgleS (fRt w) (fRd w))
  | 58 => fixedZero (fSa w == 0) .cop1 (.cSeqS (fRt w) (fRd w))
  | 59 => fixedZero (fSa w == 0) .cop1 (.cNglS (fRt w) (fRd w))
  | 60 => fixedZero (fSa w == 0) .cop1 (.cLtS (fRt w) (fRd w))
  | 61 => fixedZero (fSa w == 0) .cop1 (.cNgeS (fRt w) (fRd w))
  | 62 => fixedZero (fSa w == 0) .cop1 (.cLeS (fRt w) (fRd w))
  | 63 => fixedZero (fSa w == 0) .cop1 (.cNgtS (fRt w) (fRd w))
  | _ => .error .cop1Unlisted

/-- COP1 arithmetic with fmt D (R365, 47_fpu.md R720, 48_fpu_ext.md R792). -/
def decodeFmtD (w : BitVec 32) : Except DecodeError Instr :=
  match (fFn w).toNat with
  | 0 => .ok (.addD (fRt w) (fRd w) (fSa w))
  | 1 => .ok (.subD (fRt w) (fRd w) (fSa w))
  | 2 => .ok (.mulD (fRt w) (fRd w) (fSa w))
  | 3 => .ok (.divD (fRt w) (fRd w) (fSa w))
  | 4 => fixedZero (fRt w == 0) .cop1 (.sqrtD (fRd w) (fSa w))
  | 5 => fixedZero (fRt w == 0) .cop1 (.absD (fRd w) (fSa w))
  | 6 => fixedZero (fRt w == 0) .cop1 (.movD (fRd w) (fSa w))
  | 7 => fixedZero (fRt w == 0) .cop1 (.negD (fRd w) (fSa w))
  | 8 => fixedZero (fRt w == 0) .cop1 (.roundLD (fRd w) (fSa w))
  | 9 => fixedZero (fRt w == 0) .cop1 (.truncLD (fRd w) (fSa w))
  | 10 => fixedZero (fRt w == 0) .cop1 (.ceilLD (fRd w) (fSa w))
  | 11 => fixedZero (fRt w == 0) .cop1 (.floorLD (fRd w) (fSa w))
  | 12 => fixedZero (fRt w == 0) .cop1 (.roundWD (fRd w) (fSa w))
  | 13 => fixedZero (fRt w == 0) .cop1 (.truncWD (fRd w) (fSa w))
  | 14 => fixedZero (fRt w == 0) .cop1 (.ceilWD (fRd w) (fSa w))
  | 15 => fixedZero (fRt w == 0) .cop1 (.floorWD (fRd w) (fSa w))
  | 32 => fixedZero (fRt w == 0) .cop1 (.cvtSD (fRd w) (fSa w))
  | 36 => fixedZero (fRt w == 0) .cop1 (.cvtWD (fRd w) (fSa w))
  | 37 => fixedZero (fRt w == 0) .cop1 (.cvtLD (fRd w) (fSa w))
  | 48 => fixedZero (fSa w == 0) .cop1 (.cFD (fRt w) (fRd w))
  | 49 => fixedZero (fSa w == 0) .cop1 (.cUnD (fRt w) (fRd w))
  | 50 => fixedZero (fSa w == 0) .cop1 (.cEqD (fRt w) (fRd w))
  | 51 => fixedZero (fSa w == 0) .cop1 (.cUeqD (fRt w) (fRd w))
  | 52 => fixedZero (fSa w == 0) .cop1 (.cOltD (fRt w) (fRd w))
  | 53 => fixedZero (fSa w == 0) .cop1 (.cUltD (fRt w) (fRd w))
  | 54 => fixedZero (fSa w == 0) .cop1 (.cOleD (fRt w) (fRd w))
  | 55 => fixedZero (fSa w == 0) .cop1 (.cUleD (fRt w) (fRd w))
  | 56 => fixedZero (fSa w == 0) .cop1 (.cSfD (fRt w) (fRd w))
  | 57 => fixedZero (fSa w == 0) .cop1 (.cNgleD (fRt w) (fRd w))
  | 58 => fixedZero (fSa w == 0) .cop1 (.cSeqD (fRt w) (fRd w))
  | 59 => fixedZero (fSa w == 0) .cop1 (.cNglD (fRt w) (fRd w))
  | 60 => fixedZero (fSa w == 0) .cop1 (.cLtD (fRt w) (fRd w))
  | 61 => fixedZero (fSa w == 0) .cop1 (.cNgeD (fRt w) (fRd w))
  | 62 => fixedZero (fSa w == 0) .cop1 (.cLeD (fRt w) (fRd w))
  | 63 => fixedZero (fSa w == 0) .cop1 (.cNgtD (fRt w) (fRd w))
  | _ => .error .cop1Unlisted

/-- COP1 arithmetic with fmt W (R365, 47_fpu.md R720, 48_fpu_ext.md R792). -/
def decodeFmtW (w : BitVec 32) : Except DecodeError Instr :=
  match (fFn w).toNat with
  | 32 => fixedZero (fRt w == 0) .cop1 (.cvtSW (fRd w) (fSa w))
  | 33 => fixedZero (fRt w == 0) .cop1 (.cvtDW (fRd w) (fSa w))
  | _ => .error .cop1Unlisted

/-- COP1 arithmetic with fmt L (R365, 47_fpu.md R720, 48_fpu_ext.md R792). -/
def decodeFmtL (w : BitVec 32) : Except DecodeError Instr :=
  match (fFn w).toNat with
  | 32 => fixedZero (fRt w == 0) .cop1 (.cvtSL (fRd w) (fSa w))
  | 33 => fixedZero (fRt w == 0) .cop1 (.cvtDL (fRd w) (fSa w))
  | _ => .error .cop1Unlisted

/-- COP1 arithmetic with fmt Ps (R365, 47_fpu.md R720, 48_fpu_ext.md R792). -/
def decodeFmtPs (w : BitVec 32) : Except DecodeError Instr :=
  match (fFn w).toNat with
  | 0 => .ok (.addPs (fRt w) (fRd w) (fSa w))
  | 1 => .ok (.subPs (fRt w) (fRd w) (fSa w))
  | 2 => .ok (.mulPs (fRt w) (fRd w) (fSa w))
  | 5 => fixedZero (fRt w == 0) .cop1 (.absPs (fRd w) (fSa w))
  | 6 => fixedZero (fRt w == 0) .cop1 (.movPs (fRd w) (fSa w))
  | 7 => fixedZero (fRt w == 0) .cop1 (.negPs (fRd w) (fSa w))
  | 48 => fixedZero (fSa w == 0) .cop1 (.cFPs (fRt w) (fRd w))
  | 49 => fixedZero (fSa w == 0) .cop1 (.cUnPs (fRt w) (fRd w))
  | 50 => fixedZero (fSa w == 0) .cop1 (.cEqPs (fRt w) (fRd w))
  | 51 => fixedZero (fSa w == 0) .cop1 (.cUeqPs (fRt w) (fRd w))
  | 52 => fixedZero (fSa w == 0) .cop1 (.cOltPs (fRt w) (fRd w))
  | 53 => fixedZero (fSa w == 0) .cop1 (.cUltPs (fRt w) (fRd w))
  | 54 => fixedZero (fSa w == 0) .cop1 (.cOlePs (fRt w) (fRd w))
  | 55 => fixedZero (fSa w == 0) .cop1 (.cUlePs (fRt w) (fRd w))
  | 56 => fixedZero (fSa w == 0) .cop1 (.cSfPs (fRt w) (fRd w))
  | 57 => fixedZero (fSa w == 0) .cop1 (.cNglePs (fRt w) (fRd w))
  | 58 => fixedZero (fSa w == 0) .cop1 (.cSeqPs (fRt w) (fRd w))
  | 59 => fixedZero (fSa w == 0) .cop1 (.cNglPs (fRt w) (fRd w))
  | 60 => fixedZero (fSa w == 0) .cop1 (.cLtPs (fRt w) (fRd w))
  | 61 => fixedZero (fSa w == 0) .cop1 (.cNgePs (fRt w) (fRd w))
  | 62 => fixedZero (fSa w == 0) .cop1 (.cLePs (fRt w) (fRd w))
  | 63 => fixedZero (fSa w == 0) .cop1 (.cNgtPs (fRt w) (fRd w))
  | _ => .error .cop1Unlisted

/-- The COP1 map, by `rs` (R364). -/
def decodeCop1 (w : BitVec 32) : Except DecodeError Instr :=
  match (fRs w).toNat with
  | 0 => fixedZero (fSa w == 0 && fFn w == 0) .cop1 (.mfc1 (fRt w) (fRd w))
  | 1 => fixedZero (fSa w == 0 && fFn w == 0) .cop1 (.dmfc1 (fRt w) (fRd w))
  | 2 => fixedZero (fSa w == 0 && fFn w == 0) .cop1 (.cfc1 (fRt w) (fRd w))
  | 4 => fixedZero (fSa w == 0 && fFn w == 0) .cop1 (.mtc1 (fRt w) (fRd w))
  | 5 => fixedZero (fSa w == 0 && fFn w == 0) .cop1 (.dmtc1 (fRt w) (fRd w))
  | 6 => fixedZero (fSa w == 0 && fFn w == 0) .cop1 (.ctc1 (fRt w) (fRd w))
  | 8 => decodeBc1 w
  | 16 => decodeFmtS w
  | 17 => decodeFmtD w
  | 20 => decodeFmtW w
  | 21 => decodeFmtL w
  | 22 => decodeFmtPs w
  | _ => .error .cop1Unlisted

/-- The multiply-add family, by fmt (R366, 47_fpu.md R780, 48_fpu_ext.md R792). -/
def decodeMadd (w : BitVec 32) (s d ps : Reg → Reg → Reg → Instr) : Except DecodeError Instr :=
  match (fRs w).toNat with
  | 16 => .ok (s (fRt w) (fRd w) (fSa w))
  | 17 => .ok (d (fRt w) (fRd w) (fSa w))
  | 22 => .ok (ps (fRt w) (fRd w) (fSa w))
  | _ => .error .cop1Unlisted

/-- The SPECIAL2 map (R366); other functs are reserved (R388, D32). -/
noncomputable def decodeSpecial2 (w : BitVec 32) : Except DecodeError Instr :=
  match (fFn w).toNat with
  | 16 => fixedZero (fSa w == 0) .base (.multg (fRs w) (fRt w) (fRd w))
  | 17 => fixedZero (fSa w == 0) .base (.dmultg (fRs w) (fRt w) (fRd w))
  | 18 => fixedZero (fSa w == 0) .base (.multug (fRs w) (fRt w) (fRd w))
  | 19 => fixedZero (fSa w == 0) .base (.dmultug (fRs w) (fRt w) (fRd w))
  | 20 => fixedZero (fSa w == 0) .base (.divg (fRs w) (fRt w) (fRd w))
  | 21 => fixedZero (fSa w == 0) .base (.ddivg (fRs w) (fRt w) (fRd w))
  | 22 => fixedZero (fSa w == 0) .base (.divug (fRs w) (fRt w) (fRd w))
  | 23 => fixedZero (fSa w == 0) .base (.ddivug (fRs w) (fRt w) (fRd w))
  | 24 => decodeMadd w .maddS .maddD .maddPs
  | 25 => decodeMadd w .msubS .msubD .msubPs
  | 26 => decodeMadd w .nmaddS .nmaddD .nmaddPs
  | 27 => decodeMadd w .nmsubS .nmsubD .nmsubPs
  | 28 => fixedZero (fSa w == 0) .base (.modg (fRs w) (fRt w) (fRd w))
  | 29 => fixedZero (fSa w == 0) .base (.dmodg (fRs w) (fRt w) (fRd w))
  | 30 => fixedZero (fSa w == 0) .base (.modug (fRs w) (fRt w) (fRd w))
  | 31 => fixedZero (fSa w == 0) .base (.dmodug (fRs w) (fRt w) (fRd w))
  | _ => .error .reserved

/-- Decode one word, by major opcode (R360, R370); reserved cells raise ReservedInstruction (R388). -/
noncomputable def decode (w : BitVec 32) : Except DecodeError Instr :=
  match (fOp w).toNat with
  | 0 => decodeSpecial w
  | 1 => decodeRegimm w
  | 2 => .ok (.j (fTarget w))
  | 3 => .ok (.jal (fTarget w))
  | 4 => .ok (.beq (fRs w) (fRt w) (fImm w))
  | 5 => .ok (.bne (fRs w) (fRt w) (fImm w))
  | 6 => fixedZero (fRt w == 0) .base (.blez (fRs w) (fImm w))
  | 7 => fixedZero (fRt w == 0) .base (.bgtz (fRs w) (fImm w))
  | 8 => .ok (.addi (fRs w) (fRt w) (fImm w))
  | 9 => .ok (.addiu (fRs w) (fRt w) (fImm w))
  | 10 => .ok (.slti (fRs w) (fRt w) (fImm w))
  | 11 => .ok (.sltiu (fRs w) (fRt w) (fImm w))
  | 12 => .ok (.andi (fRs w) (fRt w) (fImm w))
  | 13 => .ok (.ori (fRs w) (fRt w) (fImm w))
  | 14 => .ok (.xori (fRs w) (fRt w) (fImm w))
  | 15 => fixedZero (fRs w == 0) .base (.lui (fRt w) (fImm w))
  | 16 => decodeCop0 w
  | 17 => decodeCop1 w
  | 18 => .error .cop2
  | 20 => .ok (.beql (fRs w) (fRt w) (fImm w))
  | 21 => .ok (.bnel (fRs w) (fRt w) (fImm w))
  | 22 => fixedZero (fRt w == 0) .base (.blezl (fRs w) (fImm w))
  | 23 => fixedZero (fRt w == 0) .base (.bgtzl (fRs w) (fImm w))
  | 24 => .ok (.daddi (fRs w) (fRt w) (fImm w))
  | 25 => .ok (.daddiu (fRs w) (fRt w) (fImm w))
  | 26 => .ok (.ldl (fRs w) (fRt w) (fImm w))
  | 27 => .ok (.ldr (fRs w) (fRt w) (fImm w))
  | 28 => decodeSpecial2 w
  | 32 => .ok (.lb (fRs w) (fRt w) (fImm w))
  | 33 => .ok (.lh (fRs w) (fRt w) (fImm w))
  | 34 => .ok (.lwl (fRs w) (fRt w) (fImm w))
  | 35 => .ok (.lw (fRs w) (fRt w) (fImm w))
  | 36 => .ok (.lbu (fRs w) (fRt w) (fImm w))
  | 37 => .ok (.lhu (fRs w) (fRt w) (fImm w))
  | 38 => .ok (.lwr (fRs w) (fRt w) (fImm w))
  | 39 => .ok (.lwu (fRs w) (fRt w) (fImm w))
  | 40 => .ok (.sb (fRs w) (fRt w) (fImm w))
  | 41 => .ok (.sh (fRs w) (fRt w) (fImm w))
  | 42 => .ok (.swl (fRs w) (fRt w) (fImm w))
  | 43 => .ok (.sw (fRs w) (fRt w) (fImm w))
  | 44 => .ok (.sdl (fRs w) (fRt w) (fImm w))
  | 45 => .ok (.sdr (fRs w) (fRt w) (fImm w))
  | 46 => .ok (.swr (fRs w) (fRt w) (fImm w))
  | 47 => .ok (.cache (fRs w) (fRt w) (fImm w))
  | 48 => .ok (.ll (fRs w) (fRt w) (fImm w))
  | 49 => .ok (.lwc1 (fRs w) (fRt w) (fImm w))
  | 50 => .error .cop2
  | 52 => .ok (.lld (fRs w) (fRt w) (fImm w))
  | 53 => .ok (.ldc1 (fRs w) (fRt w) (fImm w))
  | 54 => .error .cop2
  | 55 => .ok (.ld (fRs w) (fRt w) (fImm w))
  | 56 => .ok (.sc (fRs w) (fRt w) (fImm w))
  | 57 => .ok (.swc1 (fRs w) (fRt w) (fImm w))
  | 58 => .error .cop2
  | 60 => .ok (.scd (fRs w) (fRt w) (fImm w))
  | 61 => .ok (.sdc1 (fRs w) (fRt w) (fImm w))
  | 62 => .error .cop2
  | 63 => .ok (.sd (fRs w) (fRt w) (fImm w))
  | _ => .error .reserved

/-- Four bytes, lowest address first, as a word (20_memory.md R253). -/
def wordOfBytes (b0 b1 b2 b3 : Byte) : BitVec 32 := b3 ++ b2 ++ b1 ++ b0

/-- The bytes of a word as the hardware stores it, lowest address first (20_memory.md R253). -/
def bytesOfWord (w : BitVec 32) : List Byte :=
  [w.extractLsb' 0 8, w.extractLsb' 8 8, w.extractLsb' 16 8, w.extractLsb' 24 8]

/-- Decode the instruction at the head of a byte stream and give the bytes after it (R350). -/
noncomputable def decodeBytes : List Byte → Except DecodeError (Instr × List Byte)
  | b0 :: b1 :: b2 :: b3 :: rest =>
    match decode (wordOfBytes b0 b1 b2 b3) with
    | .ok i => .ok (i, rest)
    | .error e => .error e
  | _ => .error .truncated

/-- The instruction the decoder reads from `w`, numbered as spec/opcode_table.json numbers its bits;
every instruction is 32 bits (R350), and bits above `nbits` are 0. -/
noncomputable def decodeTableWord (nbits w : Nat) : Option Instr :=
  match decodeBytes (bytesOfWord (BitVec.ofNat 32 (w % 2 ^ nbits))) with
  | .ok (i, _) => some i
  | .error _ => none

/-- An R-type word (R351). -/
def encR (op : BitVec 6) (rs rt rd sa : Reg) (fn : BitVec 6) : BitVec 32 :=
  op ++ rs ++ rt ++ rd ++ sa ++ fn
/-- An I-type word (R351). -/
def encI (op : BitVec 6) (rs rt : Reg) (imm : Imm16) : BitVec 32 := op ++ rs ++ rt ++ imm
/-- A J-type word (R351). -/
def encJ (op : BitVec 6) (target : BitVec 26) : BitVec 32 := op ++ target
/-- SYSCALL or BREAK with its code (R352). -/
def encCode (code : BitVec 20) (fn : BitVec 6) : BitVec 32 := (0 : BitVec 6) ++ code ++ fn
/-- A register trap with its code (45_special_trap.md R633). -/
def encTrap (rs rt : Reg) (code : BitVec 10) (fn : BitVec 6) : BitVec 32 :=
  (0 : BitVec 6) ++ rs ++ rt ++ code ++ fn

/-- The word of an instruction, from the encodings of R360 to R367 and its own rule. -/
def encode : Instr → BitVec 32
  | .lb base rt offset => encI 32 base rt offset
  | .lbu base rt offset => encI 36 base rt offset
  | .lh base rt offset => encI 33 base rt offset
  | .lhu base rt offset => encI 37 base rt offset
  | .lw base rt offset => encI 35 base rt offset
  | .lwu base rt offset => encI 39 base rt offset
  | .ld base rt offset => encI 55 base rt offset
  | .lwl base rt offset => encI 34 base rt offset
  | .lwr base rt offset => encI 38 base rt offset
  | .ldl base rt offset => encI 26 base rt offset
  | .ldr base rt offset => encI 27 base rt offset
  | .swl base rt offset => encI 42 base rt offset
  | .swr base rt offset => encI 46 base rt offset
  | .sdl base rt offset => encI 44 base rt offset
  | .sdr base rt offset => encI 45 base rt offset
  | .sb base rt offset => encI 40 base rt offset
  | .sh base rt offset => encI 41 base rt offset
  | .sw base rt offset => encI 43 base rt offset
  | .sd base rt offset => encI 63 base rt offset
  | .ll base rt offset => encI 48 base rt offset
  | .lld base rt offset => encI 52 base rt offset
  | .sc base rt offset => encI 56 base rt offset
  | .scd base rt offset => encI 60 base rt offset
  | .lwc1 base ft offset => encI 49 base ft offset
  | .ldc1 base ft offset => encI 53 base ft offset
  | .swc1 base ft offset => encI 57 base ft offset
  | .sdc1 base ft offset => encI 61 base ft offset
  | .sync => encR 0 0 0 0 0 15
  | .addi rs rt imm => encI 8 rs rt imm
  | .daddi rs rt imm => encI 24 rs rt imm
  | .addiu rs rt imm => encI 9 rs rt imm
  | .daddiu rs rt imm => encI 25 rs rt imm
  | .slti rs rt imm => encI 10 rs rt imm
  | .sltiu rs rt imm => encI 11 rs rt imm
  | .andi rs rt imm => encI 12 rs rt imm
  | .ori rs rt imm => encI 13 rs rt imm
  | .xori rs rt imm => encI 14 rs rt imm
  | .lui rt imm => encI 15 0 rt imm
  | .add rs rt rd => encR 0 rs rt rd 0 32
  | .dadd rs rt rd => encR 0 rs rt rd 0 44
  | .addu rs rt rd => encR 0 rs rt rd 0 33
  | .daddu rs rt rd => encR 0 rs rt rd 0 45
  | .sub rs rt rd => encR 0 rs rt rd 0 34
  | .dsub rs rt rd => encR 0 rs rt rd 0 46
  | .subu rs rt rd => encR 0 rs rt rd 0 35
  | .dsubu rs rt rd => encR 0 rs rt rd 0 47
  | .slt rs rt rd => encR 0 rs rt rd 0 42
  | .sltu rs rt rd => encR 0 rs rt rd 0 43
  | .and rs rt rd => encR 0 rs rt rd 0 36
  | .or rs rt rd => encR 0 rs rt rd 0 37
  | .xor rs rt rd => encR 0 rs rt rd 0 38
  | .nor rs rt rd => encR 0 rs rt rd 0 39
  | .movz rs rt rd => encR 0 rs rt rd 0 10
  | .movn rs rt rd => encR 0 rs rt rd 0 11
  | .mult rs rt => encR 0 rs rt 0 0 24
  | .multu rs rt => encR 0 rs rt 0 0 25
  | .dmult rs rt => encR 0 rs rt 0 0 28
  | .dmultu rs rt => encR 0 rs rt 0 0 29
  | .div rs rt => encR 0 rs rt 0 0 26
  | .divu rs rt => encR 0 rs rt 0 0 27
  | .ddiv rs rt => encR 0 rs rt 0 0 30
  | .ddivu rs rt => encR 0 rs rt 0 0 31
  | .mfhi rd => encR 0 0 0 rd 0 16
  | .mthi rs => encR 0 rs 0 0 0 17
  | .mflo rd => encR 0 0 0 rd 0 18
  | .mtlo rs => encR 0 rs 0 0 0 19
  | .multg rs rt rd => encR 28 rs rt rd 0 16
  | .dmultg rs rt rd => encR 28 rs rt rd 0 17
  | .multug rs rt rd => encR 28 rs rt rd 0 18
  | .dmultug rs rt rd => encR 28 rs rt rd 0 19
  | .divg rs rt rd => encR 28 rs rt rd 0 20
  | .ddivg rs rt rd => encR 28 rs rt rd 0 21
  | .divug rs rt rd => encR 28 rs rt rd 0 22
  | .ddivug rs rt rd => encR 28 rs rt rd 0 23
  | .modg rs rt rd => encR 28 rs rt rd 0 28
  | .dmodg rs rt rd => encR 28 rs rt rd 0 29
  | .modug rs rt rd => encR 28 rs rt rd 0 30
  | .dmodug rs rt rd => encR 28 rs rt rd 0 31
  | .j target => encJ 2 target
  | .jal target => encJ 3 target
  | .jr rs => encR 0 rs 0 0 0 8
  | .jalr rs rd => encR 0 rs 0 rd 0 9
  | .beq rs rt imm => encI 4 rs rt imm
  | .bne rs rt imm => encI 5 rs rt imm
  | .beql rs rt imm => encI 20 rs rt imm
  | .bnel rs rt imm => encI 21 rs rt imm
  | .blez rs imm => encI 6 rs 0 imm
  | .bgtz rs imm => encI 7 rs 0 imm
  | .blezl rs imm => encI 22 rs 0 imm
  | .bgtzl rs imm => encI 23 rs 0 imm
  | .bltz rs imm => encI 1 rs 0 imm
  | .bgez rs imm => encI 1 rs 1 imm
  | .bltzal rs imm => encI 1 rs 16 imm
  | .bgezal rs imm => encI 1 rs 17 imm
  | .bltzl rs imm => encI 1 rs 2 imm
  | .bgezl rs imm => encI 1 rs 3 imm
  | .bltzall rs imm => encI 1 rs 18 imm
  | .bgezall rs imm => encI 1 rs 19 imm
  | .sll rt rd sa => encR 0 0 rt rd sa 0
  | .srl rt rd sa => encR 0 0 rt rd sa 2
  | .sra rt rd sa => encR 0 0 rt rd sa 3
  | .dsll rt rd sa => encR 0 0 rt rd sa 56
  | .dsrl rt rd sa => encR 0 0 rt rd sa 58
  | .dsra rt rd sa => encR 0 0 rt rd sa 59
  | .dsll32 rt rd sa => encR 0 0 rt rd sa 60
  | .dsrl32 rt rd sa => encR 0 0 rt rd sa 62
  | .dsra32 rt rd sa => encR 0 0 rt rd sa 63
  | .sllv rs rt rd => encR 0 rs rt rd 0 4
  | .srlv rs rt rd => encR 0 rs rt rd 0 6
  | .srav rs rt rd => encR 0 rs rt rd 0 7
  | .dsllv rs rt rd => encR 0 rs rt rd 0 20
  | .dsrlv rs rt rd => encR 0 rs rt rd 0 22
  | .dsrav rs rt rd => encR 0 rs rt rd 0 23
  | .syscall code20 => encCode code20 12
  | .brk code20 => encCode code20 13
  | .tge rs rt code10 => encTrap rs rt code10 48
  | .tgeu rs rt code10 => encTrap rs rt code10 49
  | .tlt rs rt code10 => encTrap rs rt code10 50
  | .tltu rs rt code10 => encTrap rs rt code10 51
  | .teq rs rt code10 => encTrap rs rt code10 52
  | .tne rs rt code10 => encTrap rs rt code10 54
  | .tgei rs imm => encI 1 rs 8 imm
  | .tgeiu rs imm => encI 1 rs 9 imm
  | .tlti rs imm => encI 1 rs 10 imm
  | .tltiu rs imm => encI 1 rs 11 imm
  | .teqi rs imm => encI 1 rs 12 imm
  | .tnei rs imm => encI 1 rs 14 imm
  | .mfc0 rt rd => encR 16 0 rt rd 0 0
  | .dmfc0 rt rd => encR 16 1 rt rd 0 0
  | .mtc0 rt rd => encR 16 4 rt rd 0 0
  | .dmtc0 rt rd => encR 16 5 rt rd 0 0
  | .tlbp => encR 16 16 0 0 0 8
  | .tlbr => encR 16 16 0 0 0 1
  | .tlbwi => encR 16 16 0 0 0 2
  | .tlbwr => encR 16 16 0 0 0 6
  | .eret => encR 16 16 0 0 0 24
  | .cache base opn offset => encI 47 base opn offset
  | .addS ft fs fd => encR 17 16 ft fs fd 0
  | .addD ft fs fd => encR 17 17 ft fs fd 0
  | .addPs ft fs fd => encR 17 22 ft fs fd 0
  | .subS ft fs fd => encR 17 16 ft fs fd 1
  | .subD ft fs fd => encR 17 17 ft fs fd 1
  | .subPs ft fs fd => encR 17 22 ft fs fd 1
  | .mulS ft fs fd => encR 17 16 ft fs fd 2
  | .mulD ft fs fd => encR 17 17 ft fs fd 2
  | .mulPs ft fs fd => encR 17 22 ft fs fd 2
  | .divS ft fs fd => encR 17 16 ft fs fd 3
  | .divD ft fs fd => encR 17 17 ft fs fd 3
  | .sqrtS fs fd => encR 17 16 0 fs fd 4
  | .sqrtD fs fd => encR 17 17 0 fs fd 4
  | .absS fs fd => encR 17 16 0 fs fd 5
  | .absD fs fd => encR 17 17 0 fs fd 5
  | .absPs fs fd => encR 17 22 0 fs fd 5
  | .movS fs fd => encR 17 16 0 fs fd 6
  | .movD fs fd => encR 17 17 0 fs fd 6
  | .movPs fs fd => encR 17 22 0 fs fd 6
  | .negS fs fd => encR 17 16 0 fs fd 7
  | .negD fs fd => encR 17 17 0 fs fd 7
  | .negPs fs fd => encR 17 22 0 fs fd 7
  | .roundLS fs fd => encR 17 16 0 fs fd 8
  | .roundLD fs fd => encR 17 17 0 fs fd 8
  | .truncLS fs fd => encR 17 16 0 fs fd 9
  | .truncLD fs fd => encR 17 17 0 fs fd 9
  | .ceilLS fs fd => encR 17 16 0 fs fd 10
  | .ceilLD fs fd => encR 17 17 0 fs fd 10
  | .floorLS fs fd => encR 17 16 0 fs fd 11
  | .floorLD fs fd => encR 17 17 0 fs fd 11
  | .roundWS fs fd => encR 17 16 0 fs fd 12
  | .roundWD fs fd => encR 17 17 0 fs fd 12
  | .truncWS fs fd => encR 17 16 0 fs fd 13
  | .truncWD fs fd => encR 17 17 0 fs fd 13
  | .ceilWS fs fd => encR 17 16 0 fs fd 14
  | .ceilWD fs fd => encR 17 17 0 fs fd 14
  | .floorWS fs fd => encR 17 16 0 fs fd 15
  | .floorWD fs fd => encR 17 17 0 fs fd 15
  | .cvtWS fs fd => encR 17 16 0 fs fd 36
  | .cvtWD fs fd => encR 17 17 0 fs fd 36
  | .cvtLS fs fd => encR 17 16 0 fs fd 37
  | .cvtLD fs fd => encR 17 17 0 fs fd 37
  | .cvtSD fs fd => encR 17 17 0 fs fd 32
  | .cvtSW fs fd => encR 17 20 0 fs fd 32
  | .cvtSL fs fd => encR 17 21 0 fs fd 32
  | .cvtDS fs fd => encR 17 16 0 fs fd 33
  | .cvtDW fs fd => encR 17 20 0 fs fd 33
  | .cvtDL fs fd => encR 17 21 0 fs fd 33
  | .cFS ft fs => encR 17 16 ft fs 0 48
  | .cFD ft fs => encR 17 17 ft fs 0 48
  | .cFPs ft fs => encR 17 22 ft fs 0 48
  | .cUnS ft fs => encR 17 16 ft fs 0 49
  | .cUnD ft fs => encR 17 17 ft fs 0 49
  | .cUnPs ft fs => encR 17 22 ft fs 0 49
  | .cEqS ft fs => encR 17 16 ft fs 0 50
  | .cEqD ft fs => encR 17 17 ft fs 0 50
  | .cEqPs ft fs => encR 17 22 ft fs 0 50
  | .cUeqS ft fs => encR 17 16 ft fs 0 51
  | .cUeqD ft fs => encR 17 17 ft fs 0 51
  | .cUeqPs ft fs => encR 17 22 ft fs 0 51
  | .cOltS ft fs => encR 17 16 ft fs 0 52
  | .cOltD ft fs => encR 17 17 ft fs 0 52
  | .cOltPs ft fs => encR 17 22 ft fs 0 52
  | .cUltS ft fs => encR 17 16 ft fs 0 53
  | .cUltD ft fs => encR 17 17 ft fs 0 53
  | .cUltPs ft fs => encR 17 22 ft fs 0 53
  | .cOleS ft fs => encR 17 16 ft fs 0 54
  | .cOleD ft fs => encR 17 17 ft fs 0 54
  | .cOlePs ft fs => encR 17 22 ft fs 0 54
  | .cUleS ft fs => encR 17 16 ft fs 0 55
  | .cUleD ft fs => encR 17 17 ft fs 0 55
  | .cUlePs ft fs => encR 17 22 ft fs 0 55
  | .cSfS ft fs => encR 17 16 ft fs 0 56
  | .cSfD ft fs => encR 17 17 ft fs 0 56
  | .cSfPs ft fs => encR 17 22 ft fs 0 56
  | .cNgleS ft fs => encR 17 16 ft fs 0 57
  | .cNgleD ft fs => encR 17 17 ft fs 0 57
  | .cNglePs ft fs => encR 17 22 ft fs 0 57
  | .cSeqS ft fs => encR 17 16 ft fs 0 58
  | .cSeqD ft fs => encR 17 17 ft fs 0 58
  | .cSeqPs ft fs => encR 17 22 ft fs 0 58
  | .cNglS ft fs => encR 17 16 ft fs 0 59
  | .cNglD ft fs => encR 17 17 ft fs 0 59
  | .cNglPs ft fs => encR 17 22 ft fs 0 59
  | .cLtS ft fs => encR 17 16 ft fs 0 60
  | .cLtD ft fs => encR 17 17 ft fs 0 60
  | .cLtPs ft fs => encR 17 22 ft fs 0 60
  | .cNgeS ft fs => encR 17 16 ft fs 0 61
  | .cNgeD ft fs => encR 17 17 ft fs 0 61
  | .cNgePs ft fs => encR 17 22 ft fs 0 61
  | .cLeS ft fs => encR 17 16 ft fs 0 62
  | .cLeD ft fs => encR 17 17 ft fs 0 62
  | .cLePs ft fs => encR 17 22 ft fs 0 62
  | .cNgtS ft fs => encR 17 16 ft fs 0 63
  | .cNgtD ft fs => encR 17 17 ft fs 0 63
  | .cNgtPs ft fs => encR 17 22 ft fs 0 63
  | .mfc1 rt fs => encR 17 0 rt fs 0 0
  | .dmfc1 rt fs => encR 17 1 rt fs 0 0
  | .cfc1 rt fs => encR 17 2 rt fs 0 0
  | .mtc1 rt fs => encR 17 4 rt fs 0 0
  | .dmtc1 rt fs => encR 17 5 rt fs 0 0
  | .ctc1 rt fs => encR 17 6 rt fs 0 0
  | .bc1f offset => encI 17 8 0 offset
  | .bc1t offset => encI 17 8 1 offset
  | .bc1fl offset => encI 17 8 2 offset
  | .bc1tl offset => encI 17 8 3 offset
  | .maddS ft fs fd => encR 28 16 ft fs fd 24
  | .maddD ft fs fd => encR 28 17 ft fs fd 24
  | .maddPs ft fs fd => encR 28 22 ft fs fd 24
  | .msubS ft fs fd => encR 28 16 ft fs fd 25
  | .msubD ft fs fd => encR 28 17 ft fs fd 25
  | .msubPs ft fs fd => encR 28 22 ft fs fd 25
  | .nmaddS ft fs fd => encR 28 16 ft fs fd 26
  | .nmaddD ft fs fd => encR 28 17 ft fs fd 26
  | .nmaddPs ft fs fd => encR 28 22 ft fs fd 26
  | .nmsubS ft fs fd => encR 28 16 ft fs fd 27
  | .nmsubD ft fs fd => encR 28 17 ft fs fd 27
  | .nmsubPs ft fs fd => encR 28 22 ft fs fd 27

end Sys2Proof
end

