-- ==== Sys2Proof/Machine/Env.lean ====
section
/-! DEFINITION. Around the instructions: what the outside does between steps (00_scope.md R33,
61_platform.md R936, R945, R978), stand-by (R976), interrupt recognition (60_exceptions.md R880, R882),
fetching, words that decode to no instruction (30_encoding.md R388 to R391), and what every step ends with. -/

namespace Sys2Proof.Machine

/-- The next free values are fresh ones. -/
def bump (s : State) : State := { s with tick := s.tick + 1 }

/-- `PCI_Hit<k>_Sel` (61_platform.md R936). -/
def Chip.hitSel (c : Chip) (k : Nat) : Word := c.ioRegs[21 + 2 * k]! ++ c.ioRegs[20 + 2 * k]!
/-- {BAR2k+1, BAR2k} (61_platform.md R936). -/
def Chip.bar (c : Chip) (k : Nat) : Word := c.pciHdr[5 + 2 * k]! ++ c.pciHdr[4 + 2 * k]!

/-- Does inbound window `k` accept a PCI memory address: image size 00 compares 32 bits, 10 compares 64,
other sizes turn the window off (61_platform.md R936)? -/
def Chip.barHit (c : Chip) (a : Word) (k : Nat) : Bool :=
  let sel := c.hitSel k
  let mask := sel &&& 0x7FFFFFFFFFFFF000
  match (sel.extractLsb' 1 2).toNat with
  | 0 => hi32 a == 0 && lo32 (a &&& mask) == lo32 (c.bar k &&& mask)
  | 2 => (a &&& mask) == (c.bar k &&& mask)
  | _ => false

/-- Where a byte of a PCI master's transfer goes. -/
inductive DmaTarget where
  /-- No inbound window takes it. -/
  | unclaimed
  /-- Taken, and no PCIDMA window leads to DDR2 (U44, R918). -/
  | open_
  /-- DDR2 (R918). -/
  | ddr (a : Nat)
deriving DecidableEq, Repr

/-- The way of a PCI address through the inbound and the PCIDMA windows (61_platform.md R918, R936). -/
def dmaTarget (c : Chip) (a : Word) : Except Fault DmaTarget :=
  if [0, 1, 2].any (c.barHit a) then
    match throughWindows c 12 a with
    | .ok (.ddr d) => .ok (.ddr d)
    | .ok _ => .ok .open_
    | .error f => .error f
  else .ok .unclaimed

/-- Bytes a PCI master writes, past the caches (20_memory.md R295); one that reaches no DDR2 is dropped (U44). -/
def dmaWriteBytes (x : MemCtx) : Word → List Byte → MemSys → Except Fault MemSys
  | _, [], m => .ok m
  | a, b :: bs, m =>
    match dmaTarget m.chip a with
    | .ok (.ddr d) => dmaWriteBytes x (a + 1) bs (ddrWrite x d 1 (b.setWidth 256) m)
    | .ok _ => dmaWriteBytes x (a + 1) bs m
    | .error f => .error f

/-- What the master is given, recorded. -/
def logDma (a : Word) (v : BitVec 256) (m : MemSys) : MemSys :=
  logBus m { space := .dma, write := false, addr := a.toNat, size := 1, data := v }

/-- `n` bytes a PCI master reads, past the caches (20_memory.md R295); one that reaches no DDR2 is a free
value (U44). -/
def dmaReadBytes (x : MemCtx) : Word → Nat → MemSys → Except Fault MemSys
  | _, 0, m => .ok m
  | a, n + 1, m =>
    match dmaTarget m.chip a with
    | .ok (.ddr d) =>
      match ddrRead x d 1 m with
      | .ok v m1 => dmaReadBytes x (a + 1) n (logDma a v m1)
      | .exc _ m1 => dmaReadBytes x (a + 1) n m1
      | .fault f => .error f
    | .ok .open_ =>
      dmaReadBytes x (a + 1) n (logDma a (draw 256 .dmaOpen x.tick m.busLog.length &&& 0xFF) m)
    | .ok .unclaimed => dmaReadBytes x (a + 1) n m
    | .error f => .error f

/-- A speculative fetch (70_reset_and_hazards.md R1015): a line fill, or four bytes read, at an address the
mode could fetch from. A read that never ends stops the machine (R1016); nothing else that goes wrong with
it shows. DESIGN CHOICE, log 39. -/
def specFetch (va : Word) (s : State) : Except Fault State :=
  match translateFetch s va with
  | (.ok pa c, itlb) =>
    match fetchAttr s.ctx c va pa s.mem with
    | .ok _ m => .ok { s with mem := m, itlb := itlb }
    | .exc _ m => .ok { s with mem := m, itlb := itlb }
    | .fault .pciRetryForever => .error .pciRetryForever
    | .fault _ => .ok s
  | _ => .ok s

/-- A cached load issued early or on a wrong path (20_memory.md R302): the line may come into the data
cache. An uncached load is never speculative. -/
def specLoad (va : Word) (s : State) : Except Fault State :=
  match translate s .load true va with
  | .ok pa c => if c = 3 then quietFill s va pa else .ok s
  | _ => .ok s

/-- Cold reset in a run (60_exceptions.md R851, 70_reset_and_hazards.md R992): all but the parameters, the
ROM, the pins and what the outside does next is as after power-on; ErrorEPC takes the PC (R229). The levels
of one step ago are the quiet ones, so a PERR or SERR line that stays high over the reset makes an active
transition after it (61_platform.md R946). DESIGN CHOICE, log 38. -/
def coldReset (s : State) : State :=
  let r := State.resetWith s.params s.mem.rom
  { r with
    cp0 := { r.cp0 with errorEpc := s.pc }
    mem := { r.mem with busLog := s.mem.busLog
                        chip := { r.mem.chip with pins := s.mem.chip.pins } }
    inputs := s.inputs
    tick := s.tick }

/-- Soft reset: an NMI that also clears the pending external interrupts (60_exceptions.md R850). -/
def softReset (s : State) : State :=
  { s with nmi := true, mem := { s.mem with chip := { s.mem.chip with pulse := 0 } } }

/-- The outcome of a memory-system housekeeping operation. -/
def housekept (s : State) (r : MemRes Unit) : Except Fault State :=
  match r with
  | .ok _ m => .ok { s with mem := m }
  | .exc _ m => .ok { s with mem := m }
  | .fault f => .error f

/-- The state with its chip changed. -/
def State.onChip (f : Chip → Chip) (s : State) : State := { s with mem := { s.mem with chip := f s.mem.chip } }

/-- One event before a step (00_scope.md R33). The housekeeping events (evictD, evictS, dropI, dropItlb,
drainGather) and the speculative accesses act in stand-by too. DESIGN CHOICE, log 37. -/
def applyEvent (e : InputEvent) (s : State) : Except Fault State :=
  match e with
  | .pins p => .ok (s.onChip fun c => { c with pins := p })
  | .nmi => .ok { s with nmi := true }
  | .softReset => .ok (softReset s)
  | .coldReset => .ok (coldReset s)
  | .dmaWrite a bs =>
    match dmaWriteBytes s.ctx a bs s.mem with
    | .ok m => .ok { s with mem := m }
    | .error f => .error f
  | .dmaRead a n =>
    match dmaReadBytes s.ctx a n s.mem with
    | .ok m => .ok { s with mem := m }
    | .error f => .error f
  | .ddrStatus bits => .ok (s.onChip (Chip.raiseDdr s.ctx bits))
  | .pciStatus i bits => .ok (s.onChip (Chip.reportPci i bits))
  | .pciArb broken last => .ok (s.onChip fun c => c.arbitrate broken last)
  | .specFetch va => specFetch va s
  | .specLoad va => specLoad va s
  | .evictD set way =>
    if cachesReady s.mem then
      housekept s (evictD s.ctx set.toNat way.toNat s.mem)
    else .ok s
  | .evictS set way =>
    if cachesReady s.mem then
      housekept s (evictS s.ctx set.toNat way.toNat s.mem)
    else .ok s
  | .dropI set way =>
    if cachesReady s.mem then
      .ok { s with mem := iSet s.mem set.toNat way.toNat { iGet s.mem set.toNat way.toNat with v := false } }
    else .ok s
  | .dropItlb n => .ok { s with itlb := s.itlb.eraseIdx n }
  | .drainGather => housekept s (drainGather s.ctx s.mem)

/-- The events before one step, in order, each with fresh free values. -/
def applyEvents : List InputEvent → State → Except Fault State
  | [], s => .ok s
  | e :: es, s =>
    match applyEvent e s with
    | .ok s1 => applyEvents es (bump s1)
    | .error f => .error f

/-- What the outside does before this step, then the interrupt inputs sampled (61_platform.md R945). -/
def environment (s : State) : Except Fault State :=
  match applyEvents s.inputs.head?.toList.flatten { s with inputs := s.inputs.tail } with
  | .ok s1 => .ok (s1.onChip Chip.sample)
  | .error f => .error f

/-- Stand-by: Freq_scale is 0 (61_platform.md R976). -/
def standby (s : State) : Bool := s.mem.chip.freqScale == 0

/-- Does the DLL of a started DDR2 controller lock now: a free value says, and it does at the latest after a
free number of steps (61_platform.md R922)? DESIGN CHOICE, log 33. -/
def ddrLocks (tick : Nat) (c : Chip) : Bool :=
  c.ddrStarted && !c.ddrReady
    && ((draw 1 .ddrLock tick 0).getLsbD 0 || (draw 256 .ddrStall 0 0).toNat ≤ c.ddrWait)

/-- The DDR2 controller after a step, one in stand-by too: at the lock `ddr_ready` is set, dll_lock takes a free value and
`int_status` bit 9 is cleared (61_platform.md R922, R924, R926). -/
def tickDdr (tick : Nat) (c : Chip) : Chip :=
  if ddrLocks tick c then
    { c.setUnlocked false with
      ddrReady := true
      ddrRegs := (c.setUnlocked false).ddrRegs.set 15 (merge 0x1FF0000 c.ddrRegs[15] (draw 64 .dllLock tick 0)) }
  else if c.ddrStarted && !c.ddrReady then { c with ddrWait := c.ddrWait + 1 }
  else c

/-- An external input among IP[6:2], which the counter overflow is not, sets Freq_scale to 1
(61_platform.md R976). -/
def Chip.wake (c : Chip) : Chip := if c.lines != 0 then c.setIo 32 (merge 7 (c.io 32) 1) else c

/-- A step in stand-by: no instruction runs, an external input wakes the core (61_platform.md R976), and the
DDR2 controller goes on towards its lock, because only the core clock stops (R922, R976). DEDUCED, log 37. -/
def standbyStep (s : State) : State := bump (s.onChip fun c => tickDdr s.tick c.wake)

/-- The interrupt condition (60_exceptions.md R880). -/
def interruptPending (s : State) : Bool :=
  s.ie && !s.exl && !s.erl && (s.ip &&& s.cp0.status.extractLsb' 8 8) != 0

/-- The fetch of the instruction at `pc` (00_scope.md R26, 20_memory.md R287): its word, or its exception
taken (60_exceptions.md R836 step 1), or a stop. -/
inductive Fetched where
  | word (w : BitVec 32) (s : State)
  | taken (s : State)
  | fault (f : Fault)
deriving Repr

/-- Fetch through the ITLB and the cache attribute of the address (20_memory.md R284 to R287). -/
def fetch (s : State) : Fetched :=
  match translateFetch s s.pc with
  | (.ok pa c, itlb) =>
    match fetchAttr s.ctx c s.pc pa s.mem with
    | .ok w m => .word w (bump { s with itlb := itlb, mem := m })
    | .exc e m => .taken (takeException e { s with itlb := itlb, mem := m })
    | .fault f => .fault f
  | (.exc e, itlb) => .taken (takeException e { s with itlb := itlb })
  | (.fault f, _) => .fault f

/-- A word with a field that must be zero set: refused, once its unit is usable (30_encoding.md R371, R390). -/
def rejectFixed (unit : CopClass) (s : State) : Res :=
  match unit with
  | .base => .refused .mustBeZero
  | .cop0 => withCp0 s (.refused .mustBeZero)
  | .cop1 => withCp1 s (.refused .mustBeZero)

/-- A word that decodes to no instruction (30_encoding.md R371, R388 to R391). -/
def rejectWord (e : DecodeError) (s : State) : Res :=
  match e with
  | .reserved => raise .reserved s
  | .cop0Reserved => withCp0 s (raise .reserved s)
  | .cop1Unlisted => withCp1 s (.refused .multimedia)
  | .cop2 => if s.cu 2 then .refused .multimedia else raise (.coprocessor 2) s
  | .mustBeZero unit => rejectFixed unit s
  | .truncated => raise .reserved s

/-- Random after a step: 63 when Wired was just written, else a free value in [Wired, 63]
(11_cp0_registers.md R154). -/
def tickRandom (tick : Nat) (c : Cp0) : Cp0 :=
  if c.randomFresh then { c with randomFresh := false }
  else
    let n := c.wired.toNat + (draw 6 .random tick 0).toNat % (64 - c.wired.toNat)
    { c with random := BitVec.ofNat 6 n }

/-- By how much Count advances after a step: a free amount, at least 1 once it has stood still for a free
number of steps, so that it keeps advancing (11_cp0_registers.md R170). DESIGN CHOICE, log 13. -/
def countAdvance (tick : Nat) (c : Cp0) : BitVec 32 :=
  let d := draw 32 .countAdvance tick 0
  if d = 0 ∧ (draw 256 .countStall 0 0).toNat ≤ c.countWait then 1 else d

/-- Count after a step, with the timer latch, which is set when Count reaches or passes Compare
(11_cp0_registers.md R170, R171). -/
def tickCount (tick : Nat) (c : Cp0) : Cp0 :=
  let d := countAdvance tick c
  let gap := c.compare - c.count
  { c with count := c.count + d, countWait := if d = 0 then c.countWait + 1 else 0
           timer := c.timer || (gap != 0 && gap ≤ d) }

/-- Does an enabled qualifier match the state (11_cp0_registers.md R218)? -/
def perfEnabled (s : State) : Bool :=
  if s.erl then false
  else if s.exl then s.cp0.perfCtl.getLsbD s.params.perfExl
  else match s.ksu.toNat with
  | 0 => s.cp0.perfCtl.getLsbD s.params.perfK
  | 1 => s.cp0.perfCtl.getLsbD s.params.perfS
  | 2 => s.cp0.perfCtl.getLsbD s.params.perfU
  | _ => false

/-- The performance counters after a step: each grows by a free amount while it counts
(11_cp0_registers.md R218, R219). -/
def tickPerf (on : Bool) (tick : Nat) (c : Cp0) : Cp0 :=
  if on then { c with perfCnt0 := c.perfCnt0 + draw 32 .perfAdvance tick 0
                      perfCnt1 := c.perfCnt1 + draw 32 .perfAdvance tick 1 }
  else c

/-- What every step that is not in stand-by ends with, `s` the state before and `t` after the instruction
or the entry: Random, Count, the performance counters and the DLL, then fresh free values. -/
def finish (s t : State) : State :=
  bump { t with
    cp0 := tickPerf (perfEnabled s) t.tick (tickCount t.tick (tickRandom t.tick t.cp0))
    mem := { t.mem with chip := tickDdr t.tick t.mem.chip } }

/-- `finish` on the outcome of a step. -/
def finished (s : State) (r : Res) : Res :=
  match r with
  | .next t => .next (finish s t)
  | .fault f => .fault f
  | .refused f => .refused f

/-- A word put into a line of 32 bytes. -/
def plantLine (pa : PAddr) (w : BitVec 32) (d : BitVec 256) : BitVec 256 :=
  putBytes d (lineOff pa) 4 (w.setWidth 256)

/-- A word put where an uncached read of `pa` finds it: ROM, or DDR2 with its DLL locked. -/
def plantMem (pa : PAddr) (w : BitVec 32) (m : MemSys) : MemSys :=
  match route m.chip pa.toNat with
  | .ok (.ddr a) =>
    { m with ddr := writeBytes m.ddr a (w.setWidth 256) 4, chip := { m.chip with ddrReady := true } }
  | .ok (.io a) =>
    if ioSpace m.chip a = .rom then { m with rom := writeBytes m.rom a (w.setWidth 256) 4 } else m
  | _ => m

/-- A word put where the fetch at `pc` finds it: the caches that hold the line, else behind them. -/
def plantWord (w : BitVec 32) (s : State) : State :=
  match (translateFetch s s.pc).1 with
  | .ok pa c =>
    if c = 3 then
      match iHit s.mem (l1Set s.pc) pa with
      | some way =>
        let l := iGet s.mem (l1Set s.pc) way
        { s with mem := iSet s.mem (l1Set s.pc) way { l with data := plantLine pa w l.data } }
      | none =>
        match sHit s.mem pa with
        | some way =>
          let l := sGet s.mem (l2Set pa) way
          if s.mem.chip.disableScache && l.st != 3 then { s with mem := plantMem pa w s.mem }
          else
            { s with mem := sSet s.mem (l2Set pa) way { l with data := plantLine pa w l.data } }
        | none => { s with mem := plantMem pa w s.mem }
    else { s with mem := plantMem pa w s.mem }
  | _ => s

end Sys2Proof.Machine
end

