-- ==== Sys2Proof/Machine/Step.lean ====
section
/-! DEFINITION. One step of the machine (00_scope.md R28, 60_exceptions.md R836). -/

namespace Sys2Proof.Machine

/-- Decode a fetched word and run it, or do what its encoding calls for (30_encoding.md R392). -/
noncomputable def runWord (w : BitVec 32) (s : State) : Res :=
  match decode w with
  | .ok i => exec i s
  | .error e => rejectWord e s

/-- The instruction at `pc`: fetched, decoded and run (60_exceptions.md R836). -/
noncomputable def runNext (s : State) : Res :=
  match fetch s with
  | .word w s1 => runWord w s1
  | .taken s1 => .next s1
  | .fault f => .fault f

/-- A step of the running core: an NMI, an interrupt, or the instruction at `pc` (60_exceptions.md R850,
R880, R882). -/
noncomputable def coreStep (s : State) : Res :=
  if s.mode = none then .fault .undefinedMode
  else if s.nmi then .next (takeNmi s)
  else if interruptPending s then raise .int s
  else runNext s

/-- One step: what the outside does, then stand-by or the core. -/
noncomputable def step (s : State) : Res :=
  match environment s with
  | .error f => .fault f
  | .ok s1 => if standby s1 then .next (standbyStep s1) else finished s1 (coreStep s1)

/-- `s` with the instruction word `w` stored where the next step fetches it. -/
def State.withFetchWord (s : State) (nbits w : Nat) : State :=
  plantWord (BitVec.ofNat 32 (w % 2 ^ nbits)) s

end Sys2Proof.Machine
end

