-- ==== Sys2Proof/Safety.lean ====
section
/-! DEFINITION. The terms claims are stated in: what a safe run is, the invariants of the machine, what an
instruction changes and leaves, and the exact values of floating-point patterns. -/

namespace Sys2Proof.Machine

/-- The machine goes on from `s`. -/
def goesOn (s : State) : Prop := ∃ t, step s = .next t

/-- `t` is reached from `s` in some number of steps. -/
inductive Reaches (s : State) : State → Prop where
  | refl : Reaches s s
  | tail {t u : State} (h : Reaches s t) (st : step t = .next u) : Reaches s u

/-- No run from `s` stops. -/
def safeFrom (s : State) : Prop := ∀ t, Reaches s t → goesOn t

/-! Invariants. -/

/-- Both memories and the three caches are in their canonical form. -/
def MemSys.wf (m : MemSys) : Prop :=
  Memory.wf m.ddr = true ∧ Memory.wf m.rom = true
    ∧ mapSorted m.icache = true ∧ mapSorted m.dcache = true ∧ mapSorted m.scache = true

/-- The CP0 bits that exist: every other bit reads 0, Config[31:3] reads its constant, and Random is at
least Wired (11_cp0_registers.md). -/
def Cp0.wf (p : ChipParams) (c : Cp0) : Prop :=
  c.index &&& ~~~0x8000003F = 0 ∧ c.wired ≤ c.random ∧ c.entryLo0 &&& ~~~(entryLoMask p) = 0
    ∧ c.entryLo1 &&& ~~~(entryLoMask p) = 0 ∧ c.context &&& 0xF = 0
    ∧ c.pageMask &&& ~~~0x01FFE000 = 0 ∧ c.entryHi &&& ~~~entryHiMask = 0
    ∧ c.status &&& ~~~(statusMask p) = 0 ∧ c.cause &&& ~~~0xB000037C = 0
    ∧ c.config &&& ~~~0x7 = 0x00030930 ∧ c.watch &&& 0x4 = 0 ∧ c.xcontext &&& 0xF = 0
    ∧ c.diag &&& ~~~(diagMask p) = 0 ∧ c.perfCtl &&& ~~~0x1FFF = 0

/-- Every JTLB entry has a page size of Table 5-6, and no address matches two (11_cp0_registers.md
R163, 20_memory.md R279). -/
def TlbUnambiguous (s : State) : Prop :=
  (∀ i : Fin 64, legalMask s.tlb[i].mask = true)
    ∧ ∀ i j : Fin 64, i ≠ j → overlaps s.tlb[i] s.tlb[j] = false

/-- The rest of what every reached state satisfies: GPR[0] is 0, a pending target belongs to a delay slot,
FCR31's absent bits are 0, the ITLB holds at most sixteen pages. -/
def CoreWf (s : State) : Prop :=
  s.gpr[0] = 0 ∧ (s.nextPc.isSome = true → s.inSlot = true) ∧ s.fcr31 &&& ~~~fcrMask = 0
    ∧ s.itlb.length ≤ 16

/-! What an instruction changes. -/

/-- The next instruction is the pending target's or the following word (10_state.md R104, R107). -/
def MovesOn (s t : State) : Prop :=
  t.pc = s.nextPc.getD (s.pc + 4) ∧ t.nextPc = none ∧ t.inSlot = false

/-- Nothing but the program counter changes. -/
def OnlyPc (s t : State) : Prop :=
  MovesOn s t ∧ { t with pc := s.pc, nextPc := s.nextPc, inSlot := s.inSlot } = s

/-- Register `r` takes `v` (register 0 stays 0), every other general register, every other register of the
machine and all of memory stay. -/
def OnlyGpr (r : Reg) (v : Word) (s t : State) : Prop :=
  MovesOn s t ∧ t.reg r = (if r = 0 then 0 else v) ∧ (∀ q, q ≠ r → t.reg q = s.reg q)
    ∧ { t with gpr := s.gpr, pc := s.pc, nextPc := s.nextPc, inSlot := s.inSlot } = s

/-- HI and LO take the given values; everything else stays. -/
def OnlyHiLo (h l : Word) (s t : State) : Prop :=
  MovesOn s t ∧ t.hi = h ∧ t.lo = l
    ∧ { t with hi := s.hi, lo := s.lo, pc := s.pc, nextPc := s.nextPc, inSlot := s.inSlot } = s

/-- The other 32-bit floating registers stay: with FR = 1 all 64 bits of the others, with FR = 0 the other
halves, the one in the same pair included, and every pair's storage that `r` does not name (10_state.md R114). -/
def OtherFprsStay (r : Reg) (s t : State) : Prop :=
  if s.fr then ∀ q, q ≠ r → t.fprAt q = s.fprAt q
  else (∀ q, q ≠ r → t.fprS q = s.fprS q) ∧ ∀ q, q ≠ evenOf r → t.fprAt q = s.fprAt q

/-- The 32-bit floating register `r` takes `v` and FCR31 takes `f`; everything else stays. -/
def OnlyFprS (r : Reg) (v f : BitVec 32) (s t : State) : Prop :=
  MovesOn s t ∧ t.fprS r = v ∧ OtherFprsStay r s t ∧ t.fcr31 = f
    ∧ { t with fpr := s.fpr, fcr31 := s.fcr31, pc := s.pc, nextPc := s.nextPc, inSlot := s.inSlot } = s

/-- The 64-bit floating register `r` takes `v` and FCR31 takes `f`; everything else stays. -/
def OnlyFprD (r : Reg) (v : Word) (f : BitVec 32) (s t : State) : Prop :=
  MovesOn s t ∧ t.fprAt r = v ∧ (∀ q, q ≠ r → t.fprAt q = s.fprAt q) ∧ t.fcr31 = f
    ∧ { t with fpr := s.fpr, fcr31 := s.fcr31, pc := s.pc, nextPc := s.nextPc, inSlot := s.inSlot } = s

/-- FCR31 takes `f`; everything else stays. -/
def OnlyFcr (f : BitVec 32) (s t : State) : Prop :=
  MovesOn s t ∧ t.fcr31 = f
    ∧ { t with fcr31 := s.fcr31, pc := s.pc, nextPc := s.nextPc, inSlot := s.inSlot } = s

/-- The instruction completes, and what it does is `p`. -/
def Does (i : Instr) (s : State) (p : State → State → Prop) : Prop := ∃ t, exec i s = .next t ∧ p s t

/-- The instruction takes the exception `e`. -/
def Takes (i : Instr) (e : Exc) (s : State) : Prop := exec i s = .next (takeException e s)

/-- A branch at `s`: the delay slot follows, then the target, or the word after the slot (43_branch_jump.md R550). -/
def BranchesTo (taken : Bool) (target : Word) (s t : State) : Prop :=
  t = { s with pc := s.pc + 4, nextPc := if taken then some target else none, inSlot := true }

/-- A likely branch at `s`: not taken, the delay slot is skipped (43_branch_jump.md R551). -/
def LikelyTo (taken : Bool) (target : Word) (s t : State) : Prop :=
  t = if taken then { s with pc := s.pc + 4, nextPc := some target, inSlot := true }
      else { s with pc := s.pc + 8, nextPc := none, inSlot := false }

/-! Memory operands. -/

/-- The `n` bytes from `start`, in the doubleword of `va`, are uncached DDR2 bytes from DDR2 address `a` up,
and the access at `va` passes every check (40_load_store.md R401, 61_platform.md R910, R920). -/
def PlainRam (s : State) (store aligned : Bool) (va start : Word) (n a : Nat) : Prop :=
  ∃ pa c, translateData s store aligned va = .ok pa c ∧ c ≠ 3 ∧ c ≠ 7
    ∧ route s.mem.chip (sameDouble pa start).toNat = .ok (.ddr a)
    ∧ s.mem.chip.ddrReady = true ∧ a + n ≤ s.params.ddrSize

/-- The number `n` bytes of DDR2 from `a` up make, the lowest address least significant (20_memory.md R250). -/
def ddrNat (s : State) (a : Nat) : Nat → Nat
  | 0 => 0
  | n + 1 => (readByte s.mem.ddr a).toNat + 256 * ddrNat s (a + 1) n

/-- The `n` bytes of DDR2 from `a` up take the low `n` bytes of `v`; every other byte, and everything
besides DDR2, stays. -/
def OnlyDdr (a n : Nat) (v : Word) (s t : State) : Prop :=
  MovesOn s t
    ∧ (∀ k, k < n → readByte t.mem.ddr (a + k) = v.extractLsb' (8 * k) 8)
    ∧ (∀ b, b < a ∨ a + n ≤ b → readByte t.mem.ddr b = readByte s.mem.ddr b)
    ∧ { t with mem := { t.mem with ddr := s.mem.ddr }
               pc := s.pc, nextPc := s.nextPc, inSlot := s.inSlot } = s

/-- The access at `va` passes every check with the cached attribute, all three caches are initialised, and
way `w` is the only one of its data-cache set that holds the line (20_memory.md R292, R299). -/
def CacheHit (s : State) (store aligned : Bool) (va : Word) (w : Nat) : Prop :=
  ∃ pa, translateData s store aligned va = .ok pa 3 ∧ cachesReady s.mem = true ∧ w < 4
    ∧ ∀ v, v < 4 → ((dGet s.mem (l1Set va) v).cs ≠ 0 ∧ (dGet s.mem (l1Set va) v).tag = l1Tag pa ↔ v = w)

/-- The number the `n` bytes of a line from byte `off` make (20_memory.md R250). -/
def lineNat (d : BitVec 256) (off n : Nat) : Nat := d.toNat / 256 ^ off % 256 ^ n

/-- In the data-cache line at `set`, `w` the `n` bytes from byte `off` take the low `n` bytes of `v` and the
line becomes Dirty; its other bytes, tag and SCWay, every other line, and everything besides stay. Of its W
bit nothing is said. -/
def OnlyLine (set w off n : Nat) (v : Word) (s t : State) : Prop :=
  let old := dGet s.mem set w
  let new := dGet t.mem set w
  new.cs = 3 ∧ new.tag = old.tag ∧ new.way = old.way
    ∧ (∀ k, k < n → new.data.extractLsb' (8 * (off + k)) 8 = v.extractLsb' (8 * k) 8)
    ∧ (∀ j, j < 32 → j < off ∨ off + n ≤ j → new.data.extractLsb' (8 * j) 8 = old.data.extractLsb' (8 * j) 8)
    ∧ (∀ q u, u < 4 → (q, u) ≠ (set, w) → dGet t.mem q u = dGet s.mem q u)
    ∧ OnlyPc s { t with mem := { t.mem with dcache := s.mem.dcache } }

/-- The gather buffer holds `line`, with the `n` bytes from byte `off` the low `n` bytes of `v` and its other
bytes as they were held before; everything else stays (20_memory.md R297). -/
def OnlyGather (line : BitVec 35) (off n : Nat) (v : Word) (s t : State) : Prop :=
  let old := s.mem.gather.getD { line := line, data := 0, held := 0 }
  ∃ g, t.mem.gather = some g ∧ g.line = line
    ∧ (∀ k, k < n → g.held.getLsbD (off + k) = true
        ∧ g.data.extractLsb' (8 * (off + k)) 8 = v.extractLsb' (8 * k) 8)
    ∧ (∀ j, j < 32 → j < off ∨ off + n ≤ j → g.held.getLsbD j = old.held.getLsbD j
        ∧ g.data.extractLsb' (8 * j) 8 = old.data.extractLsb' (8 * j) 8)
    ∧ OnlyPc s { t with mem := { t.mem with gather := s.mem.gather } }

/-! Floating-point values. -/

/-- The exact value of a finite pattern (47_fpu.md R702); 0 for an infinity or a NaN. -/
def FpVal.rat : FpVal → ℚ
  | .fin neg m e => (if neg then -1 else 1) * (m : ℚ) * (2 : ℚ) ^ e
  | _ => 0

/-- A finite value. -/
def FpVal.finite : FpVal → Prop
  | .fin _ _ _ => True
  | _ => False

/-- The result `o` is the value of sign `neg` and magnitude `x`, rounded once in the mode `rm`: to nearest,
within half a unit and even at exactly half; toward zero, up and down, at most one unit off on the side the
mode says; without a cause exactly when nothing was lost (47_fpu.md R713). -/
def RoundsTo (f : Fmt) (rm : Rm) (neg : Bool) (x : ℚ) (o : FpOut) : Prop :=
  ∃ (q : Nat) (k : Int), fpVal f o.bits = .fin neg q k ∧
    let r : ℚ := (q : ℚ) * (2 : ℚ) ^ k
    let u : ℚ := (2 : ℚ) ^ k
    (o.causes = 0 ↔ r = x)
      ∧ (rm = .nearest → 2 * |r - x| ≤ u ∧ (2 * |r - x| = u → q % 2 = 0))
      ∧ (rm = .zero ∨ (rm = .up ∧ neg = true) ∨ (rm = .down ∧ neg = false) → r ≤ x ∧ x < r + u)
      ∧ ((rm = .up ∧ neg = false) ∨ (rm = .down ∧ neg = true) → x ≤ r ∧ r < x + u)

/-- Rounding in the mode `rm` a number of sign `neg` that is not representable makes its magnitude larger
(47_fpu.md R713). -/
def roundsAway (rm : Rm) (neg : Bool) : Bool := (rm == .up && !neg) || (rm == .down && neg)

/-- The magnitude `x` of sign `neg`, rounded to the precision of the format as if the exponent were
unbounded, exceeds the largest finite number: the bound by the rounding mode (47_fpu.md R707). -/
def Overflows (f : Fmt) (rm : Rm) (neg : Bool) (x : ℚ) : Prop :=
  let top : ℚ := (2 : ℚ) ^ ((expBias f : Int) + 1)
  let u : ℚ := (2 : ℚ) ^ ((expBias f : Int) - fracBits f)
  if rm = .nearest then top - u / 2 ≤ x else if roundsAway rm neg then top - u < x else top ≤ x

/-- The magnitude `x` of sign `neg`, rounded so, is below the smallest normal number (47_fpu.md R708). -/
def Tiny (f : Fmt) (rm : Rm) (neg : Bool) (x : ℚ) : Prop :=
  let low : ℚ := (2 : ℚ) ^ (1 - (expBias f : Int))
  let u : ℚ := (2 : ℚ) ^ (-(expBias f : Int) - fracBits f)
  if rm = .nearest then x < low - u / 2 else if roundsAway rm neg then x ≤ low - u else x < low

/-- An operation that neither overflows nor traps otherwise: no cause but Inexact. -/
def OnlyInexact (o : FpOut) : Prop := o.causes = 0 ∨ o.causes = causeI

/-- What the result `o` of sign `neg` and exact magnitude `x` is when that overflows (47_fpu.md R707), when
it is tiny (R708, R709), and that it has no cause but Inexact otherwise (R710). -/
def RangeResult (f : Fmt) (c : FpCtl) (neg : Bool) (x : ℚ) (o : FpOut) : Prop :=
  (Overflows f c.rm neg x → o.causes = causeO ||| causeI
      ∧ fpVal f o.bits = if c.rm = .nearest ∨ roundsAway c.rm neg = true then .inf neg
          else .fin neg (2 ^ (fracBits f + 1) - 1) ((expBias f : Int) - fracBits f))
    ∧ (Tiny f c.rm neg x →
      (c.enU = true ∨ c.enI = true ∨ c.fs = false → o.causes = causeE)
      ∧ (c.enU = false → c.enI = false → c.fs = true → o.causes = causeU ||| causeI
        ∧ fpVal f o.bits = .fin neg (if roundsAway c.rm neg then 2 ^ fracBits f else 0)
            (1 - (expBias f : Int) - fracBits f)))
    ∧ (¬Overflows f c.rm neg x → ¬Tiny f c.rm neg x → OnlyInexact o)

/-- The result `o` is the square root of `x`, rounded once in the mode `rm`, said without roots: within
half a unit, or at most one unit off on the side the mode says; without a cause exactly when its square
is `x` (47_fpu.md R713, R725). -/
def RootRoundsTo (f : Fmt) (rm : Rm) (x : ℚ) (o : FpOut) : Prop :=
  ∃ (q : Nat) (k : Int), fpVal f o.bits = .fin false q k ∧
    let r : ℚ := (q : ℚ) * (2 : ℚ) ^ k
    let u : ℚ := (2 : ℚ) ^ k
    (o.causes = 0 ↔ r * r = x)
      ∧ (rm = .nearest → (2 * r - u) * (2 * r - u) ≤ 4 * x ∧ 4 * x ≤ (2 * r + u) * (2 * r + u))
      ∧ (rm = .zero ∨ rm = .down → r * r ≤ x ∧ x < (r + u) * (r + u))
      ∧ (rm = .up → x ≤ r * r ∧ (r - u) * (r - u) < x)

/-- The integer `n` is `x` rounded in the mode `rm` (47_fpu.md R713). -/
def RoundsToInt (rm : Rm) (x : ℚ) (n : Int) : Prop :=
  match rm with
  | .nearest => 2 * |(n : ℚ) - x| ≤ 1 ∧ (2 * |(n : ℚ) - x| = 1 → n % 2 = 0)
  | .zero => n = if x < 0 then ⌈x⌉ else ⌊x⌋
  | .up => n = ⌈x⌉
  | .down => n = ⌊x⌋

/-- FCR31 after an operation that does not trap: Causes written, Flags gathered (47_fpu.md R703). -/
def fcrAfter (s : State) (c : Causes) : BitVec 32 := fcrAddFlags (fcrSetCauses s.fcr31 c) c

/-! Families of claims. -/

/-- The integer fits in `w` bits, two's complement (00_scope.md R24). -/
def Fits (w : Nat) (x : Int) : Prop := -2 ^ (w - 1) ≤ x ∧ x < 2 ^ (w - 1)

/-- The exact result into `r` when it fits, else Overflow (41_alu.md R452). -/
def SumOrOverflow (i : Instr) (s : State) (w : Nat) (r : Reg) (x : Int) : Prop :=
  (Fits w x → Does i s (OnlyGpr r (BitVec.ofInt 64 x))) ∧ (¬Fits w x → Takes i .overflow s)

/-- The trap is taken exactly when the condition holds (45_special_trap.md R633). -/
def TrapsWhen (i : Instr) (s : State) (c : Prop) : Prop :=
  (c → Takes i .trap s) ∧ (¬c → Does i s OnlyPc)

/-- `q` and `r` are the quotient, truncated toward zero, and the remainder of `x` by `y` (00_scope.md R25). -/
def Divides (x y q r : Int) : Prop := x = q * y + r ∧ r.natAbs < y.natAbs ∧ (0 ≤ x → 0 ≤ r) ∧ (x ≤ 0 → r ≤ 0)

/-- A sign-extended word. -/
def IsWord (v : Word) : Prop := v = sext32 (lo32 v)

/-- What a floating operation with causes and candidate result `o` leaves: without a trap `p` of the
result and the gathered FCR31, with a trap only Causes and the exception (47_fpu.md R703, R711). -/
def FpDone (i : Instr) (s : State) (o : FpOut) (p : State → State → Prop) : Prop :=
  (fcrTraps s.fcr31 o.causes = false → Does i s p)
    ∧ (fcrTraps s.fcr31 o.causes = true →
        exec i s = .next (takeException .fpe { s with fcr31 := fcrSetCauses s.fcr31 o.causes }))

/-- A 32-bit floating result. -/
def FpDoneS (i : Instr) (s : State) (fd : Reg) (o : FpOut) : Prop :=
  FpDone i s o (OnlyFprS fd (BitVec.ofNat 32 o.bits) (fcrAfter s o.causes))

/-- A 64-bit floating result. -/
def FpDoneD (i : Instr) (s : State) (fd : Reg) (o : FpOut) : Prop :=
  FpDone i s o (OnlyFprD fd (BitVec.ofNat 64 o.bits) (fcrAfter s o.causes))

/-- A compare: CC0 takes the predicate (47_fpu.md R745). -/
def FpDoneC (i : Instr) (s : State) (r : Bool × Bool) : Prop :=
  let c := if r.1 then causeV else 0
  FpDone i s { causes := c, bits := 0 } (OnlyFcr (fcrSetCc0 (fcrAfter s c) r.2))

/-- A PS compare: CC0 takes the lower half's predicate, CC1 the upper half's (48_fpu_ext.md R801). -/
def FpDoneCPs (i : Instr) (s : State) (lo hi : Bool × Bool) : Prop :=
  let c := if lo.1 || hi.1 then causeV else 0
  FpDone i s { causes := c, bits := 0 } (OnlyFcr (fcrSetCc1 (fcrSetCc0 (fcrAfter s c) lo.2) hi.2))

/-- The lower and the upper single of a register compared (48_fpu_ext.md R801). -/
def cmpLo (s : State) (cond : BitVec 4) (fs ft : Reg) : Bool × Bool :=
  fpCompare .single cond (psLo (s.fprAt fs)) (psLo (s.fprAt ft))
/-- The upper singles. -/
def cmpHi (s : State) (cond : BitVec 4) (fs ft : Reg) : Bool × Bool :=
  fpCompare .single cond (psHi (s.fprAt fs)) (psHi (s.fprAt ft))
/-- S operands compared. -/
def cmpS (s : State) (cond : BitVec 4) (fs ft : Reg) : Bool × Bool :=
  fpCompare .single cond (s.fprS fs).toNat (s.fprS ft).toNat
/-- D operands compared. -/
def cmpD (s : State) (cond : BitVec 4) (fs ft : Reg) : Bool × Bool :=
  fpCompare .double cond (s.fprAt fs).toNat (s.fprAt ft).toNat

end Sys2Proof.Machine
end

