-- ==== Sys2Proof/Certificates/Slice0/Obligations.lean ====
section
/-! DEFINITION. The statements for the provers, each from the rules its docstring names. -/

section

open Sys2Proof Sys2Proof.Machine

/-- Decoding an encoded instruction gives it back. For every instruction i, with every operand at every
value its fields admit, decoding the word encode i gives i. So no bit of an encoding is dropped, for any
row of the opcode table. (30_encoding.md R351, 30_encoding.md R360, 30_encoding.md R361, 30_encoding.md
R364) -/
def Obligations.DecodeOfEncode : Prop :=
  ∀ i : Instr, decode (encode i) = .ok i

/-- A word that decodes is the encoding of what it decodes to. For every word w and instruction i, if w
decodes to i then w is encode i: each word has one meaning, and a non-zero must-be-zero field never
decodes. (30_encoding.md R351, 30_encoding.md R371, 30_encoding.md R388) -/
def Obligations.EncodeOfDecode : Prop :=
  ∀ (w : BitVec 32) (i : Instr), decode w = .ok i → encode i = w

/-- Words written out in the spec decode to the instructions it names. 0x40086000 is MFC0 r8,$12; 0x40886000
is MTC0 r8,$12; 0x42000018 is ERET; 0x46010080 is ADD.S f2,f0,f1; 0x46200086 is MOV.D f2,f0; 0x44020000
is MFC1 r2,f0; 0x0000000F is SYNC; 0x03E00008 is JR r31; 0x0000000C is SYSCALL 0. (43_branch_jump.md
R562, 46_cp0_privileged.md R660, 46_cp0_privileged.md R673, 47_fpu.md R721, 47_fpu.md R765,
40_load_store.md R434) -/
def Obligations.SpecWordsDecode : Prop :=
  decode 0x40086000 = .ok (.mfc0 8 12) ∧ decode 0x40886000 = .ok (.mtc0 8 12)
    ∧ decode 0x42000018 = .ok .eret ∧ decode 0x46010080 = .ok (.addS 1 0 2)
    ∧ decode 0x46200086 = .ok (.movD 0 2) ∧ decode 0x44020000 = .ok (.mfc1 2 0)
    ∧ decode 0x0000000F = .ok .sync ∧ decode 0x03E00008 = .ok (.jr 31)
    ∧ decode 0x0000000C = .ok (.syscall 0)

/-- A step runs the instruction the bytes at the program counter decode to. When the events before the step
leave s1, s1 is not in stand-by, its mode is defined, no NMI and no interrupt is pending, the fetch
gives a word w and the state s2, and w decodes to i, then step is exec of i at s2 with finish around it;
and finish changes nothing but Random, Count with the timer latch, the performance counters, the DLL
lock with dll_lock and the DLL bit of int_status (CONF_CTL_15 and 16), and the counters of the model
(free values, steps without an advance of Count or without a lock). (60_exceptions.md R836,
30_encoding.md R392, 00_scope.md R28) -/
def Obligations.StepRunsDecoded : Prop :=
  ∀ (s s1 s2 : State) (w : BitVec 32) (i : Instr),
    environment s = .ok s1 → standby s1 = false → s1.mode ≠ none → s1.nmi = false →
    interruptPending s1 = false → fetch s1 = .word w s2 → decode w = .ok i →
    step s = finished s1 (exec i s2) ∧
    let dllBit : Word := 0x0200000000000000
    ∀ t, exec i s2 = .next t → ∃ u, step s = .next u ∧
      { u with
        cp0 := { u.cp0 with random := t.cp0.random, randomFresh := t.cp0.randomFresh
                            count := t.cp0.count, countWait := t.cp0.countWait, timer := t.cp0.timer
                            perfCnt0 := t.cp0.perfCnt0, perfCnt1 := t.cp0.perfCnt1 }
        mem := { u.mem with chip := { u.mem.chip with
          ddrReady := t.mem.chip.ddrReady, ddrWait := t.mem.chip.ddrWait
          ddrRegs := (u.mem.chip.ddrRegs.set 15 t.mem.chip.ddrRegs[15]).set 16
            (merge dllBit u.mem.chip.ddrRegs[16] t.mem.chip.ddrRegs[16]) } }
        tick := t.tick } = t

/-- A fetch in the boot ROM's CKSEG1 window reads the ROM's four bytes, little-endian. In kernel mode, with
the reset values in the address windows, a fetch at 0xFFFFFFFFBFC00000 + 4k (k below 2^18) gives the
word the four ROM bytes from IO-controller address 0x1FC00000 + 4k make, the lowest address least
significant; nothing changes but the free-value counter. (70_reset_and_hazards.md R990, 20_memory.md
R273, 61_platform.md R910, 20_memory.md R250, 20_memory.md R287) -/
def Obligations.BootRomFetch : Prop :=
  ∀ (s : State) (k : BitVec 18),
    s.mode = some .kernel → s.mem.chip.winRegs = winRegsReset →
    s.pc = (0xFFFFFFFFBFC : BitVec 44) ++ k ++ (0 : BitVec 2) →
    let b := fun j => readByte s.mem.rom (0x1FC00000 + 4 * k.toNat + j)
    fetch s = .word (b 3 ++ b 2 ++ b 1 ++ b 0) (bump s)

/-- Every step keeps both memories and the three caches in canonical form. For every state whose DDR2, ROM
and three cache lists are in canonical form, if step answers a next state then its are too.
(20_memory.md R252, 61_platform.md R920, 10_state.md R129, 10_state.md R130, 10_state.md R131) -/
def Obligations.StepKeepsMemoryCanonical : Prop :=
  ∀ s t : State, s.mem.wf → step s = .next t → t.mem.wf

/-- Every step keeps the absent bits of the CP0 registers zero and Random at or above Wired. For every state
in which the reserved bits of the CP0 registers read 0, Config[31:3] reads its constant and Wired <=
Random, if step answers a next state then the same holds there. (11_cp0_registers.md R180,
11_cp0_registers.md R190, 11_cp0_registers.md R197, 11_cp0_registers.md R154, 11_cp0_registers.md R163,
11_cp0_registers.md R174) -/
def Obligations.StepKeepsCp0Legal : Prop :=
  ∀ s t : State, s.cp0.wf s.params → step s = .next t → t.cp0.wf t.params

/-- Every step keeps the JTLB free of illegal page sizes and of double matches (the model's stops, log 17).
For every state whose JTLB entries have page masks of Table 5-6 and of which no address matches two, if
step answers a next state then the same holds there. It holds because the model stops at a TLBWI or
TLBWR with an illegal mask or a second match, and compares the region bits: decisions D17 (R164), D11
(R279) and D13, log 17, which are the model's choice and not the manual's words. (20_memory.md R279,
11_cp0_registers.md R163, 11_cp0_registers.md R164, 46_cp0_privileged.md R671) -/
def Obligations.StepKeepsTlbUnambiguous : Prop :=
  ∀ s t : State, TlbUnambiguous s → step s = .next t → TlbUnambiguous t

/-- Every step keeps GPR[0] zero, FCR31's absent bits zero, a pending target in a slot, the ITLB at most
sixteen pages. For every state with GPR[0] = 0, a pending branch target only in a delay slot, FCR31's
absent bits 0 and at most sixteen ITLB pages, if step answers a next state then the same holds there.
(10_state.md R101, 10_state.md R107, 10_state.md R124, 20_memory.md R284) -/
def Obligations.StepKeepsCoreLegal : Prop :=
  ∀ s t : State, CoreWf s → step s = .next t → CoreWf t

/-- The state after reset meets the four invariants, for every choice of the parameters and the ROM. For
every choice p of the chip parameters and every ROM content in canonical form the state after cold reset
has canonical memories, legal CP0 registers, an unambiguous JTLB (the model's reset entries, log 4) and
the core invariant. (70_reset_and_hazards.md R992) -/
def Obligations.ResetMeetsInvariants : Prop :=
  ∀ (p : ChipParams) (rom : Memory), Memory.wf rom = true →
    (State.resetWith p rom).mem.wf ∧ (State.resetWith p rom).cp0.wf p
      ∧ TlbUnambiguous (State.resetWith p rom) ∧ CoreWf (State.resetWith p rom)

/-- With an unambiguous JTLB no data access stops on a multiple match (decisions D11, D13, log 17). For
every state whose JTLB is unambiguous, every access kind, alignment answer and address, translation does
not end in the multiple-match fault. (20_memory.md R276, 20_memory.md R279, 20_memory.md R267) -/
def Obligations.NoMultipleMatch : Prop :=
  ∀ (s : State) (acc : Access) (aligned : Bool) (va : Word),
    TlbUnambiguous s → translate s acc aligned va ≠ .fault .tlbMultipleMatch

/-- An instruction in user mode leaves CP0 and the TLBs alone, or takes an exception to a vector. In user
mode with CU0 = 0 and Diagnostic.U-Mode = 0, whatever instruction runs to a next state either leaves
every CP0 register as it was, or has taken an exception: EXL = 1 and the pc at one of the two vectors
BEV selects. The JTLB and the ITLB stay in both cases. (60_exceptions.md R891, 60_exceptions.md R892,
11_cp0_registers.md R150) -/
def Obligations.UserChangesNoCp0 : Prop :=
  ∀ (i : Instr) (s t : State),
    s.mode = some .user → s.cu 0 = false → s.cp0.diag.getLsbD s.params.diagUMode = false →
    exec i s = .next t →
    t.tlb = s.tlb ∧ t.itlb = s.itlb ∧
      (t.cp0 = s.cp0 ∨
        t.exl = true ∧
          (t.pc = (if s.bev then 0xFFFFFFFFBFC00200 else 0xFFFFFFFF80000000) ∨
            t.pc = (if s.bev then 0xFFFFFFFFBFC00380 else 0xFFFFFFFF80000180)))

/-- Exception entry: EPC, Cause, EXL and the pc, which CP0 registers stay, and nothing else. For every
exception and state, entry with EXL = 0 puts the address of the victim, or of the branch before it, into
EPC and the slot flag into Cause.BD, and with EXL = 1 keeps both; ExcCode takes the code of Table 6-1;
CE takes the unit of a coprocessor-unusable exception and else stays (R191: that it stays is the model's
choice, the manual leaves it undefined, log 43); the other bits of Cause stay; EXL becomes 1, the rest
of Status stays; the pc takes the vector. BadVAddr, Context, XContext, EntryHi, EntryLo0 and EntryLo1
stay but for the TLB exceptions and the address error; every other CP0 register and every part of the
machine besides CP0 and the pc stays. (60_exceptions.md R840, 60_exceptions.md R832, 60_exceptions.md
R834, 60_exceptions.md R871, 11_cp0_registers.md R191) -/
def Obligations.ExceptionEntry : Prop :=
  ∀ (e : Exc) (s : State),
    let t := takeException e s
    (s.exl = false → t.cp0.epc = (if s.inSlot then s.pc - 4 else s.pc)
      ∧ t.cp0.cause.getLsbD 31 = s.inSlot)
    ∧ (s.exl = true → t.cp0.epc = s.cp0.epc ∧ t.cp0.cause.getLsbD 31 = s.cp0.cause.getLsbD 31)
    ∧ t.cp0.cause.extractLsb' 2 5 = (match e with
        | .int => 0 | .tlbModified _ => 1 | .tlbRefill false _ => 2 | .tlbInvalid false _ => 2
        | .tlbRefill true _ => 3 | .tlbInvalid true _ => 3 | .addressError false _ => 4
        | .addressError true _ => 5 | .busError true => 6 | .busError false => 7 | .syscall => 8
        | .breakpoint => 9 | .reserved => 10 | .coprocessor _ => 11 | .overflow => 12 | .trap => 13
        | .fpe => 15 | .watch => 23)
    ∧ t.cp0.cause.extractLsb' 28 2 = (match e with
        | .coprocessor u => u
        | _ => s.cp0.cause.extractLsb' 28 2)
    ∧ t.cp0.cause &&& 0x4FFFFF83 = s.cp0.cause &&& 0x4FFFFF83
    ∧ (match e with
        | .tlbRefill _ _ => True | .tlbInvalid _ _ => True | .tlbModified _ => True | .addressError _ _ => True
        | _ => t.cp0.badVAddr = s.cp0.badVAddr ∧ t.cp0.context = s.cp0.context
          ∧ t.cp0.xcontext = s.cp0.xcontext ∧ t.cp0.entryHi = s.cp0.entryHi
          ∧ t.cp0.entryLo0 = s.cp0.entryLo0 ∧ t.cp0.entryLo1 = s.cp0.entryLo1)
    ∧ { t.cp0 with
        epc := s.cp0.epc, cause := s.cp0.cause, status := s.cp0.status, badVAddr := s.cp0.badVAddr
        context := s.cp0.context, xcontext := s.cp0.xcontext, entryHi := s.cp0.entryHi
        entryLo0 := s.cp0.entryLo0, entryLo1 := s.cp0.entryLo1 } = s.cp0
    ∧ t.cp0.status = s.cp0.status ||| 2
    ∧ t.pc = excVector s.bev s.exl e ∧ t.nextPc = none ∧ t.inSlot = false
    ∧ { t with cp0 := s.cp0, pc := s.pc, nextPc := s.nextPc, inSlot := s.inSlot } = s

/-- The exception vector by BEV, EXL and TLB refill. The base is 0xFFFFFFFFBFC00200 with BEV = 1 and
0xFFFFFFFF80000000 with BEV = 0; the offset is 0 for a TLB refill with EXL = 0 before entry and 0x180
otherwise; the vector is their sum; BEV is 1 after reset. (60_exceptions.md R834) -/
def Obligations.ExceptionVector : Prop :=
  (∀ (bev exl : Bool) (e : Exc),
    excVector bev exl e = (if bev then 0xFFFFFFFFBFC00200 else 0xFFFFFFFF80000000)
      + (if (∃ st va, e = .tlbRefill st va) ∧ exl = false then 0x000 else 0x180))
    ∧ (∀ (e : Exc) (s : State), (takeException e s).pc = excVector s.bev s.exl e)
    ∧ ∀ p, (State.resetWith p).bev = true

/-- The address registers a TLB exception and an address error record. TLB refill, invalid and modified at
va write BadVAddr, Context[22:4], XContext[32:4] and EntryHi.R and VPN2 from va and keep
Context.PTEBase, XContext.PTEBase and EntryHi.ASID; an address error writes BadVAddr and none of the
others; PageMask and Index stay. (60_exceptions.md R843, 11_cp0_registers.md R160, 11_cp0_registers.md
R168, 11_cp0_registers.md R174, 11_cp0_registers.md R204) -/
def Obligations.TlbExceptionRegisters : Prop :=
  ∀ (s : State) (va : Word) (st : Bool),
    (∀ e ∈ [Exc.tlbRefill st va, Exc.tlbInvalid st va, Exc.tlbModified va],
      let c := (takeException e s).cp0
      c.badVAddr = va ∧ c.context.extractLsb' 4 19 = va.extractLsb' 13 19
        ∧ c.context.extractLsb' 23 41 = s.cp0.context.extractLsb' 23 41
        ∧ c.xcontext.extractLsb' 4 27 = va.extractLsb' 13 27
        ∧ c.xcontext.extractLsb' 31 2 = va.extractLsb' 62 2
        ∧ c.xcontext.extractLsb' 33 31 = s.cp0.xcontext.extractLsb' 33 31
        ∧ c.entryHi.extractLsb' 62 2 = va.extractLsb' 62 2
        ∧ c.entryHi.extractLsb' 13 27 = va.extractLsb' 13 27
        ∧ c.entryHi.extractLsb' 0 8 = s.cp0.entryHi.extractLsb' 0 8
        ∧ c.pageMask = s.cp0.pageMask ∧ c.index = s.cp0.index)
    ∧ let c := (takeException (.addressError st va) s).cp0
      c.badVAddr = va ∧ c.context = s.cp0.context ∧ c.xcontext = s.cp0.xcontext
        ∧ c.entryHi = s.cp0.entryHi ∧ c.entryLo0 = s.cp0.entryLo0 ∧ c.entryLo1 = s.cp0.entryLo1

/-- A pending NMI is taken whatever IE, EXL and ERL are (in a slot ErrorEPC is the branch: log 15). In a
defined mode with an NMI pending the core's step saves the restart address in ErrorEPC (in a delay slot
the address of the branch: decision D5, log 15, the model's choice, since R229 leaves it not stated),
sets ERL, SR and BEV, goes to the reset vector and changes nothing else but BadVAddr (a free value) and
the pending NMI. (60_exceptions.md R850, 70_reset_and_hazards.md R993, 11_cp0_registers.md R229) -/
def Obligations.NmiEntry : Prop :=
  ∀ s : State, s.mode ≠ none → s.nmi = true →
    ∃ t, coreStep s = .next t ∧ t.cp0.errorEpc = (if s.inSlot then s.pc - 4 else s.pc)
      ∧ t.cp0.status = s.cp0.status ||| 0x00500004 ∧ t.pc = 0xFFFFFFFFBFC00000 ∧ t.nextPc = none
      ∧ t.inSlot = false ∧ t.nmi = false
      ∧ { t with
          cp0 := { t.cp0 with errorEpc := s.cp0.errorEpc, status := s.cp0.status
                              badVAddr := s.cp0.badVAddr }
          pc := s.pc, nextPc := s.nextPc, inSlot := s.inSlot, nmi := s.nmi } = s

/-- An enabled pending interrupt is taken, at the first opportunity (the model's choice, log 12). With IE =
1, EXL = 0, ERL = 0 and a bit of Cause.IP enabled by Status.IM, in a defined mode and without an NMI,
the core's step is the interrupt exception; when any of those four conditions fails, it is no interrupt.
(60_exceptions.md R880, 60_exceptions.md R882) -/
def Obligations.InterruptTaken : Prop :=
  (∀ s : State, s.mode ≠ none → s.nmi = false → s.cp0.status.getLsbD 0 = true →
      s.cp0.status.getLsbD 1 = false → s.cp0.status.getLsbD 2 = false →
      (∃ k, k < 8 ∧ s.causeView.getLsbD (8 + k) = true ∧ s.cp0.status.getLsbD (8 + k) = true) →
      coreStep s = .next (takeException .int s))
    ∧ ∀ s : State, s.mode ≠ none → s.nmi = false →
      (s.cp0.status.getLsbD 0 = false ∨ s.cp0.status.getLsbD 1 = true ∨ s.cp0.status.getLsbD 2 = true
        ∨ ∀ k, k < 8 → s.causeView.getLsbD (8 + k) = true → s.cp0.status.getLsbD (8 + k) = false) →
      coreStep s = runNext s

/-- What drives each bit of Cause.IP (the reading D35, log 35), what Intenset and Intenclr change, and when
the timer latch becomes set. IP[2+k] is Intisr[11+k] for k = 0..3; IP[6] is set when an enabled source
among 0..10 shows in Intisr or a performance counter has overflowed with its interrupt enabled; IP[7] is
the timer latch; IP[1:0] are the software bits; the other bits of Cause are the stored ones. The routing
to IP[6:2] and Intisr as the sources after polarity and edge, before the mask, are the spec's own
reading of R940 (D35, log 35), the model's choice. A 32-bit store of v to Intenset makes Inten the old
value or v[10:0]; to Intenclr, the old value and not v[10:0], with the pulse records of the sources in
v[14:0] cleared; every other IO control register and the rest of the chip stay. At the end of a step
(finish, see StepRunsDecoded) Count advances by a free amount d, Compare stays, and the latch becomes
set exactly when Count equals Compare at one of the d values it passes, and else keeps its value; a
Count that has stood still for a number of steps N, fixed for the machine, advances in the next one
(amount and bound: decision D26, log 13). A write of Compare clears the latch: Cp0Moves. (61_platform.md
R940, 61_platform.md R941, 61_platform.md R942, 11_cp0_registers.md R192, 11_cp0_registers.md R220,
60_exceptions.md R881, 11_cp0_registers.md R170, 11_cp0_registers.md R171) -/
def Obligations.InterruptLines : Prop :=
  (∀ s : State,
    (∀ k, k < 4 → s.causeView.getLsbD (10 + k) = s.mem.chip.intisr.getLsbD (11 + k))
    ∧ (s.causeView.getLsbD 14 = true ↔
        (∃ i, i < 11 ∧ s.mem.chip.intisr.getLsbD i = true ∧ (s.mem.chip.io 14).getLsbD i = true)
          ∨ s.cp0.perfCtl.getLsbD 4 = true
            ∧ (s.cp0.perfCnt0.getLsbD 31 = true ∨ s.cp0.perfCnt1.getLsbD 31 = true))
    ∧ s.causeView.getLsbD 15 = s.cp0.timer
    ∧ s.causeView.getLsbD 8 = s.cp0.cause.getLsbD 8 ∧ s.causeView.getLsbD 9 = s.cp0.cause.getLsbD 9
    ∧ s.causeView.extractLsb' 0 8 = s.cp0.cause.extractLsb' 0 8
    ∧ s.causeView.extractLsb' 16 16 = s.cp0.cause.extractLsb' 16 16)
  ∧ (∀ (c : Chip) (v : BitVec 32),
    let on := c.writeIo 12 0xFFFFFFFF v
    let off := c.writeIo 13 0xFFFFFFFF v
    on.io 14 = (c.io 14 ||| (v &&& 0x7FF)) ∧ on.pulse = c.pulse
    ∧ { on with ioRegs := c.ioRegs } = c ∧ (∀ i : Fin 64, i ≠ 14 → on.io i = c.io i)
    ∧ off.io 14 = (c.io 14 &&& ~~~(v &&& 0x7FF)) ∧ off.pulse = (c.pulse &&& ~~~(v.extractLsb' 0 15))
    ∧ { off with ioRegs := c.ioRegs, pulse := c.pulse } = c ∧ (∀ i : Fin 64, i ≠ 14 → off.io i = c.io i))
  ∧ (∀ s t : State,
    let u := (finish s t).cp0
    let d := u.count - t.cp0.count
    (u.timer = true ↔ t.cp0.timer = true
        ∨ ∃ k : Nat, 1 ≤ k ∧ k ≤ d.toNat ∧ t.cp0.count + BitVec.ofNat 32 k = t.cp0.compare)
    ∧ u.compare = t.cp0.compare
    ∧ u.countWait = if u.count = t.cp0.count then t.cp0.countWait + 1 else 0)
  ∧ ∃ n : Nat, ∀ s t : State, n ≤ t.cp0.countWait → (finish s t).cp0.count ≠ t.cp0.count

/-- The values the spec gives for cold reset (LLbit = 0 is its decision D7). After cold reset, for every
choice of the parameters and every ROM content: the pc is 0xFFFFFFFFBFC00000, no branch is pending,
Status is 0x30400004, Config 0x00030932, Random 63, Wired 0, LLbit 0, the mode is kernel, CP0 and CP1
are usable, no interrupt can be taken, DDR2 is not ready, and Chip_Config0 is 0x617. Of LLbit R992 says
that it is unspecified and takes 0 by decision D7 (log 23): the spec's choice, not the manual's word.
(70_reset_and_hazards.md R992, 70_reset_and_hazards.md R991, 11_cp0_registers.md R187,
11_cp0_registers.md R198) -/
def Obligations.ResetValues : Prop :=
  ∀ (p : ChipParams) (rom : Memory),
    let s := State.resetWith p rom
    s.pc = 0xFFFFFFFFBFC00000 ∧ s.nextPc = none ∧ s.inSlot = false
      ∧ s.cp0.status = 0x30400004 ∧ s.cp0.config = 0x00030932 ∧ s.cp0.random = 63 ∧ s.cp0.wired = 0
      ∧ s.llBit = false ∧ s.mode = some .kernel ∧ s.cp0Usable = true ∧ s.cu 1 = true ∧ s.fr = false
      ∧ interruptPending s = false ∧ s.mem.chip.ddrReady = false ∧ s.mem.chip.io 32 = 0x617
      ∧ s.mem.chip.io 9 = 0x0300 ∧ s.mem.chip.io 11 = 0x0700 ∧ s.mem.chip.io 14 = 0
      ∧ s.reg 0 = 0

/-- ERET returns: pc, EXL or ERL, LLbit, and nothing else. Where CP0 is usable and the ERET is in no delay
slot, with ERL = 0 the pc takes EPC and EXL is cleared; with ERL = 1 the pc takes EPC, or ErrorEPC where
the parameter ERET_ERL_TARGET says so, and ERL is cleared; LLbit becomes 0; the rest of the machine
stays. (46_cp0_privileged.md R673, 46_cp0_privileged.md R674, 40_load_store.md R433) -/
def Obligations.EretReturns : Prop :=
  ∀ s : State, s.cp0Usable = true → s.inSlot = false →
    exec .eret s = .next { s with
      pc := if s.erl = true ∧ s.params.eretErrorEpc = true then s.cp0.errorEpc else s.cp0.epc
      cp0 := { s.cp0 with status := if s.erl then s.cp0.status &&& ~~~4 else s.cp0.status &&& ~~~2 }
      llBit := false, nextPc := none, inSlot := false }

/-- ADDU, ADDIU, SUBU, DADDU, DADDIU, DSUBU and LUI complete with their results, register 0 discarded. In
every state each of the seven completes: the destination takes the sum or difference modulo 2^32, sign-
extended, or modulo 2^64, or the shifted immediate; a destination of register 0 stays 0; every other
register, flag, special register and all of memory stay. That ADDU, ADDIU and SUBU read bits [31:0] of a
source that is no sign-extended word and ignore the rest is R451's decision D1, log 25: the model's
choice for such a source, which MIPS III leaves undefined. (41_alu.md R457, 41_alu.md R458, 41_alu.md
R464, 41_alu.md R472, 41_alu.md R473, 41_alu.md R476, 41_alu.md R477, 10_state.md R101) -/
def Obligations.WrappingArithmetic : Prop :=
  ∀ (s : State) (rs rt rd : Reg) (imm : Imm16),
    let x := s.reg rs
    let y := s.reg rt
    Does (.addu rs rt rd) s (OnlyGpr rd (sext32 (BitVec.ofNat 32 (x.toNat + y.toNat))))
    ∧ Does (.addiu rs rt imm) s (OnlyGpr rt (sext32 (BitVec.ofInt 32 (x.toInt + imm.toInt))))
    ∧ Does (.subu rs rt rd) s (OnlyGpr rd (sext32 (BitVec.ofInt 32 (x.toInt - y.toInt))))
    ∧ Does (.daddu rs rt rd) s (OnlyGpr rd (BitVec.ofNat 64 (x.toNat + y.toNat)))
    ∧ Does (.daddiu rs rt imm) s (OnlyGpr rt (BitVec.ofInt 64 (x.toInt + imm.toInt)))
    ∧ Does (.dsubu rs rt rd) s (OnlyGpr rd (BitVec.ofInt 64 (x.toInt - y.toInt)))
    ∧ Does (.lui rt imm) s (OnlyGpr rt (BitVec.ofInt 64 (imm.toInt * 2 ^ 16)))

/-- ADD, ADDI, SUB, DADD, DADDI, DSUB: the exact result when it fits, else Overflow. When the exact signed
result fits in 32 (or 64) bits the instruction completes and the destination takes it, all else
unchanged; otherwise it takes Overflow. That ADD, ADDI and SUB read bits [31:0] of a source that is no
sign-extended word and ignore the rest is R451's decision D1, log 25: the model's choice for such a
source, which MIPS III leaves undefined. (41_alu.md R452, 41_alu.md R455, 41_alu.md R456, 41_alu.md
R470, 41_alu.md R471, 41_alu.md R474, 41_alu.md R475) -/
def Obligations.OverflowArithmetic : Prop :=
  ∀ (s : State) (rs rt rd : Reg) (imm : Imm16),
    let x := s.reg rs
    let y := s.reg rt
    SumOrOverflow (.add rs rt rd) s 32 rd ((lo32 x).toInt + (lo32 y).toInt)
    ∧ SumOrOverflow (.addi rs rt imm) s 32 rt ((lo32 x).toInt + imm.toInt)
    ∧ SumOrOverflow (.sub rs rt rd) s 32 rd ((lo32 x).toInt - (lo32 y).toInt)
    ∧ SumOrOverflow (.dadd rs rt rd) s 64 rd (x.toInt + y.toInt)
    ∧ SumOrOverflow (.daddi rs rt imm) s 64 rt (x.toInt + imm.toInt)
    ∧ SumOrOverflow (.dsub rs rt rd) s 64 rd (x.toInt - y.toInt)

/-- Logic, set-on-less-than and conditional moves complete with their results. AND, OR, XOR, NOR, ANDI, ORI,
XORI give the bitwise result, the immediate zero-extended; SLT, SLTI compare signed integers, SLTU,
SLTIU naturals, the immediate sign-extended in both, and give 1 or 0; MOVZ copies rs when all 64 bits of
rt are 0 and else only the pc moves, MOVN the other way round. A destination of register 0 stays 0; all
else stays. That MOVZ and MOVN exist, with the operation of MIPS IV, is R485's decision D2: the manual
only says that there are conditional moves. (41_alu.md R459, 41_alu.md R460, 41_alu.md R461, 41_alu.md
R462, 41_alu.md R463, 41_alu.md R478, 41_alu.md R479, 41_alu.md R480, 41_alu.md R482, 41_alu.md R483,
41_alu.md R486, 41_alu.md R487) -/
def Obligations.LogicCompareMove : Prop :=
  ∀ (s : State) (rs rt rd : Reg) (imm : Imm16),
    let x := s.reg rs
    let y := s.reg rt
    let z : Word := (0 : BitVec 48) ++ imm
    Does (.and rs rt rd) s (OnlyGpr rd (x &&& y)) ∧ Does (.or rs rt rd) s (OnlyGpr rd (x ||| y))
    ∧ Does (.xor rs rt rd) s (OnlyGpr rd (x ^^^ y)) ∧ Does (.nor rs rt rd) s (OnlyGpr rd (~~~x &&& ~~~y))
    ∧ Does (.andi rs rt imm) s (OnlyGpr rt (x &&& z)) ∧ Does (.ori rs rt imm) s (OnlyGpr rt (x ||| z))
    ∧ Does (.xori rs rt imm) s (OnlyGpr rt (x ^^^ z))
    ∧ Does (.slt rs rt rd) s (OnlyGpr rd (if x.toInt < y.toInt then 1 else 0))
    ∧ Does (.sltu rs rt rd) s (OnlyGpr rd (if x.toNat < y.toNat then 1 else 0))
    ∧ Does (.slti rs rt imm) s (OnlyGpr rt (if x.toInt < imm.toInt then 1 else 0))
    ∧ Does (.sltiu rs rt imm) s (OnlyGpr rt (if x.toNat < (BitVec.ofInt 64 imm.toInt).toNat then 1 else 0))
    ∧ (y = 0 → Does (.movz rs rt rd) s (OnlyGpr rd x) ∧ Does (.movn rs rt rd) s OnlyPc)
    ∧ (y ≠ 0 → Does (.movz rs rt rd) s OnlyPc ∧ Does (.movn rs rt rd) s (OnlyGpr rd x))

/-- The fifteen shifts complete as multiplication and floor division by powers of two. Left shifts multiply
modulo 2^32 or 2^64, logical right shifts divide the natural, arithmetic ones floor-divide the signed
integer, by 2 to the count; the 32-bit results are sign-extended; a variable count is rs modulo 32 or
64; all else stays. That the six 32-bit shifts read bits [31:0] of a source that is no sign-extended
word and ignore the rest is decision D1 (R601, R451), log 25: the model's choice for such a source,
which MIPS III leaves undefined. (44_shift.md R600, 44_shift.md R602, 44_shift.md R603, 44_shift.md
R604, 44_shift.md R605, 44_shift.md R608, 44_shift.md R609, 44_shift.md R610, 44_shift.md R614,
44_shift.md R616) -/
def Obligations.Shifts : Prop :=
  ∀ (s : State) (rs rt rd sa : Reg),
    let y := s.reg rt
    let w := lo32 y
    Does (.sll rt rd sa) s (OnlyGpr rd (sext32 (BitVec.ofNat 32 (w.toNat * 2 ^ sa.toNat))))
    ∧ Does (.srl rt rd sa) s (OnlyGpr rd (sext32 (BitVec.ofNat 32 (w.toNat / 2 ^ sa.toNat))))
    ∧ Does (.sra rt rd sa) s (OnlyGpr rd (BitVec.ofInt 64 (w.toInt / 2 ^ sa.toNat)))
    ∧ Does (.sllv rs rt rd) s (OnlyGpr rd (sext32 (BitVec.ofNat 32 (w.toNat * 2 ^ ((s.reg rs).toNat % 32)))))
    ∧ Does (.srlv rs rt rd) s (OnlyGpr rd (sext32 (BitVec.ofNat 32 (w.toNat / 2 ^ ((s.reg rs).toNat % 32)))))
    ∧ Does (.srav rs rt rd) s (OnlyGpr rd (BitVec.ofInt 64 (w.toInt / 2 ^ ((s.reg rs).toNat % 32))))
    ∧ Does (.dsll rt rd sa) s (OnlyGpr rd (BitVec.ofNat 64 (y.toNat * 2 ^ sa.toNat)))
    ∧ Does (.dsrl rt rd sa) s (OnlyGpr rd (BitVec.ofNat 64 (y.toNat / 2 ^ sa.toNat)))
    ∧ Does (.dsra rt rd sa) s (OnlyGpr rd (BitVec.ofInt 64 (y.toInt / 2 ^ sa.toNat)))
    ∧ Does (.dsll32 rt rd sa) s (OnlyGpr rd (BitVec.ofNat 64 (y.toNat * 2 ^ (sa.toNat + 32))))
    ∧ Does (.dsrl32 rt rd sa) s (OnlyGpr rd (BitVec.ofNat 64 (y.toNat / 2 ^ (sa.toNat + 32))))
    ∧ Does (.dsra32 rt rd sa) s (OnlyGpr rd (BitVec.ofInt 64 (y.toInt / 2 ^ (sa.toNat + 32))))
    ∧ Does (.dsllv rs rt rd) s (OnlyGpr rd (BitVec.ofNat 64 (y.toNat * 2 ^ ((s.reg rs).toNat % 64))))
    ∧ Does (.dsrlv rs rt rd) s (OnlyGpr rd (BitVec.ofNat 64 (y.toNat / 2 ^ ((s.reg rs).toNat % 64))))
    ∧ Does (.dsrav rs rt rd) s (OnlyGpr rd (BitVec.ofInt 64 (y.toInt / 2 ^ ((s.reg rs).toNat % 64))))

/-- MULT, MULTU, DMULT and DMULTU put the exact product into HI and LO; MFHI, MFLO, MTHI, MTLO move one
register. Each completes in every state; after a multiply HI and LO together are the exact signed or
unsigned product, the 32-bit forms' halves sign-extended; MFHI and MFLO copy HI or LO to rd (register 0
stays 0), MTHI and MTLO copy rs to HI or LO; all else stays. That MULT and MULTU read bits [31:0] of a
source that is no sign-extended word and ignore the rest is decision D1 (R504, R451), log 25: the
model's choice for such a source, which MIPS III leaves undefined. (42_muldiv.md R505, 42_muldiv.md
R506, 42_muldiv.md R507, 42_muldiv.md R508, 42_muldiv.md R513, 42_muldiv.md R514, 42_muldiv.md R515,
42_muldiv.md R516) -/
def Obligations.MultiplyHiLo : Prop :=
  (∀ (s : State) (rs rt : Reg),
    let x := s.reg rs
    let y := s.reg rt
    Does (.mult rs rt) s (fun s t => OnlyHiLo t.hi t.lo s t ∧ IsWord t.hi ∧ IsWord t.lo
      ∧ (lo32 t.hi ++ lo32 t.lo).toInt = (lo32 x).toInt * (lo32 y).toInt)
    ∧ Does (.multu rs rt) s (fun s t => OnlyHiLo t.hi t.lo s t ∧ IsWord t.hi ∧ IsWord t.lo
      ∧ (lo32 t.hi ++ lo32 t.lo).toNat = (lo32 x).toNat * (lo32 y).toNat)
    ∧ Does (.dmult rs rt) s (fun s t => OnlyHiLo t.hi t.lo s t
      ∧ (t.hi ++ t.lo).toInt = x.toInt * y.toInt)
    ∧ Does (.dmultu rs rt) s (fun s t => OnlyHiLo t.hi t.lo s t
      ∧ (t.hi ++ t.lo).toNat = x.toNat * y.toNat))
  ∧ ∀ (s : State) (r : Reg),
    Does (.mfhi r) s (OnlyGpr r s.hi) ∧ Does (.mflo r) s (OnlyGpr r s.lo)
    ∧ Does (.mthi r) s (OnlyHiLo (s.reg r) s.lo) ∧ Does (.mtlo r) s (OnlyHiLo s.hi (s.reg r))

/-- DIV, DIVU, DDIV and DDIVU put quotient and remainder into LO and HI for a non-zero divisor. For a non-
zero divisor each completes; LO and HI are the quotient truncated toward zero and the remainder with the
dividend's sign (or the unsigned ones), except that the most negative number divided by -1 gives LO =
the dividend, HI = 0: R503's decision D8, log 26, the model's choice, since the manual states no result
there; all else stays. That DIV and DIVU read bits [31:0] of a source that is no sign-extended word and
ignore the rest is decision D1 (R504, R451), log 25: the model's choice for such a source, which MIPS
III leaves undefined. (42_muldiv.md R503, 42_muldiv.md R509, 42_muldiv.md R510, 42_muldiv.md R511,
42_muldiv.md R512, 00_scope.md R25) -/
def Obligations.DivideHiLo : Prop :=
  ∀ (s : State) (rs rt : Reg),
    let x := s.reg rs
    let y := s.reg rt
    (lo32 y ≠ 0 → Does (.div rs rt) s (fun s t => OnlyHiLo t.hi t.lo s t ∧ IsWord t.hi ∧ IsWord t.lo
      ∧ if lo32 x = 0x80000000 ∧ (lo32 y).toInt = -1 then t.lo = sext32 (lo32 x) ∧ t.hi = 0
        else Divides (lo32 x).toInt (lo32 y).toInt t.lo.toInt t.hi.toInt))
    ∧ (lo32 y ≠ 0 → Does (.divu rs rt) s (fun s t => OnlyHiLo t.hi t.lo s t ∧ IsWord t.hi ∧ IsWord t.lo
      ∧ Divides (lo32 x).toNat (lo32 y).toNat (lo32 t.lo).toNat (lo32 t.hi).toNat))
    ∧ (y ≠ 0 → Does (.ddiv rs rt) s (fun s t => OnlyHiLo t.hi t.lo s t
      ∧ if x = 0x8000000000000000 ∧ y.toInt = -1 then t.lo = x ∧ t.hi = 0
        else Divides x.toInt y.toInt t.lo.toInt t.hi.toInt))
    ∧ (y ≠ 0 → Does (.ddivu rs rt) s (fun s t => OnlyHiLo t.hi t.lo s t
      ∧ Divides x.toNat y.toNat t.lo.toNat t.hi.toNat))

/-- A division by zero completes, leaving only its results open (free values, log 26). With a zero divisor
each of the twelve divisions completes: DIV, DIVU leave sign-extended words in HI and LO, DDIV, DDIVU
some values there, the Godson forms some value (a sign-extended word for the 32-bit ones) in the
destination; all else stays. That a divisor of DIV or DIVU whose low word alone is 0 counts as zero is
decision D1 (R504, R451), log 25: the model's choice for a source that is no sign-extended word.
(42_muldiv.md R502, 42_muldiv.md R519) -/
def Obligations.DivideByZero : Prop :=
  ∀ (s : State) (rs rt rd : Reg),
    (lo32 (s.reg rt) = 0 →
      (∀ i ∈ [Instr.div rs rt, .divu rs rt],
        Does i s (fun s t => OnlyHiLo t.hi t.lo s t ∧ IsWord t.hi ∧ IsWord t.lo))
      ∧ ∀ i ∈ [Instr.divg rs rt rd, .divug rs rt rd, .modg rs rt rd, .modug rs rt rd],
        Does i s (fun s t => ∃ v, IsWord v ∧ OnlyGpr rd v s t))
    ∧ (s.reg rt = 0 →
      (∀ i ∈ [Instr.ddiv rs rt, .ddivu rs rt], Does i s (fun s t => OnlyHiLo t.hi t.lo s t))
      ∧ ∀ i ∈ [Instr.ddivg rs rt rd, .ddivug rs rt rd, .dmodg rs rt rd, .dmodug rs rt rd],
        Does i s (fun s t => ∃ v, OnlyGpr rd v s t))

/-- The Godson multiplies, and its divides and modulos by a non-zero divisor, complete with one register.
MULTG, MULTUG, DMULTG, DMULTUG give the product modulo 2^32 (sign-extended) or 2^64; DIVG, DDIVG the
quotient truncated toward zero, MODG, DMODG the remainder with the dividend's sign, the U forms the
unsigned ones; the most negative number by -1 gives the dividend and remainder 0: R519's decision D10,
log 26, the model's choice; HI, LO and all else stay. (42_muldiv.md R519, 42_muldiv.md R521,
42_muldiv.md R522, 42_muldiv.md R525, 42_muldiv.md R526, 42_muldiv.md R527, 42_muldiv.md R528,
42_muldiv.md R529, 42_muldiv.md R530) -/
def Obligations.GodsonMultiplyDivide : Prop :=
  ∀ (s : State) (rs rt rd : Reg),
    let x := s.reg rs
    let y := s.reg rt
    let a := lo32 x
    let b := lo32 y
    Does (.multg rs rt rd) s (OnlyGpr rd (sext32 (BitVec.ofInt 32 (a.toInt * b.toInt))))
    ∧ Does (.multug rs rt rd) s (OnlyGpr rd (sext32 (BitVec.ofNat 32 (a.toNat * b.toNat))))
    ∧ Does (.dmultg rs rt rd) s (OnlyGpr rd (BitVec.ofInt 64 (x.toInt * y.toInt)))
    ∧ Does (.dmultug rs rt rd) s (OnlyGpr rd (BitVec.ofNat 64 (x.toNat * y.toNat)))
    ∧ (b ≠ 0 → Does (.divg rs rt rd) s (OnlyGpr rd (sext32 (BitVec.ofInt 32 (a.toInt.tdiv b.toInt))))
      ∧ Does (.modg rs rt rd) s (OnlyGpr rd (BitVec.ofInt 64 (a.toInt.tmod b.toInt)))
      ∧ Does (.divug rs rt rd) s (OnlyGpr rd (sext32 (BitVec.ofNat 32 (a.toNat / b.toNat))))
      ∧ Does (.modug rs rt rd) s (OnlyGpr rd (sext32 (BitVec.ofNat 32 (a.toNat % b.toNat)))))
    ∧ (y ≠ 0 → Does (.ddivg rs rt rd) s (OnlyGpr rd (BitVec.ofInt 64 (x.toInt.tdiv y.toInt)))
      ∧ Does (.dmodg rs rt rd) s (OnlyGpr rd (BitVec.ofInt 64 (x.toInt.tmod y.toInt)))
      ∧ Does (.ddivug rs rt rd) s (OnlyGpr rd (BitVec.ofNat 64 (x.toNat / y.toNat)))
      ∧ Does (.dmodug rs rt rd) s (OnlyGpr rd (BitVec.ofNat 64 (x.toNat % y.toNat))))

/-- The twelve conditional branches outside a delay slot complete, with slot, target and nullification.
Outside a delay slot each branch moves to its slot with the target (pc + 4 + 4 * offset) pending when
taken and none when not; a likely branch not taken goes on at pc + 8. Conditions compare all 64 bits as
signed integers. Every register and all of memory stay. (43_branch_jump.md R550, 43_branch_jump.md R551,
43_branch_jump.md R552, 43_branch_jump.md R564, 43_branch_jump.md R566, 43_branch_jump.md R567,
43_branch_jump.md R568, 43_branch_jump.md R572) -/
def Obligations.ConditionalBranches : Prop :=
  ∀ (s : State) (rs rt : Reg) (imm : Imm16), s.inSlot = false →
    let target := s.pc + 4 + BitVec.ofInt 64 (4 * imm.toInt)
    Does (.beq rs rt imm) s (BranchesTo (decide (s.reg rs = s.reg rt)) target)
    ∧ Does (.bne rs rt imm) s (BranchesTo (decide (s.reg rs ≠ s.reg rt)) target)
    ∧ Does (.blez rs imm) s (BranchesTo (decide ((s.reg rs).toInt ≤ 0)) target)
    ∧ Does (.bgtz rs imm) s (BranchesTo (decide (0 < (s.reg rs).toInt)) target)
    ∧ Does (.bltz rs imm) s (BranchesTo (decide ((s.reg rs).toInt < 0)) target)
    ∧ Does (.bgez rs imm) s (BranchesTo (decide (0 ≤ (s.reg rs).toInt)) target)
    ∧ Does (.beql rs rt imm) s (LikelyTo (decide (s.reg rs = s.reg rt)) target)
    ∧ Does (.bnel rs rt imm) s (LikelyTo (decide (s.reg rs ≠ s.reg rt)) target)
    ∧ Does (.blezl rs imm) s (LikelyTo (decide ((s.reg rs).toInt ≤ 0)) target)
    ∧ Does (.bgtzl rs imm) s (LikelyTo (decide (0 < (s.reg rs).toInt)) target)
    ∧ Does (.bltzl rs imm) s (LikelyTo (decide ((s.reg rs).toInt < 0)) target)
    ∧ Does (.bgezl rs imm) s (LikelyTo (decide (0 ≤ (s.reg rs).toInt)) target)

/-- J, JAL, JR, JALR and the linking branches outside a delay slot complete, reading rs before they link
(the spec's choice D1). J and JAL go to the 28-bit target in the slot's 256 MB region, JR and JALR to
all 64 bits of rs; BLTZAL, BGEZAL, BLTZALL, BGEZALL branch on the sign of rs, both as read before the
link. That JALR with rd = rs and a linking branch with rs = 31, which MIPS does not allow, read rs first
is no rule of the architecture but the spec's own choice for the model (R556, R563, 92_eei_decisions.md
D1; log 25). JAL and the four branches, taken or not, link register 31 with pc + 8, JALR register rd
(register 0 stays); all other registers and all of memory stay. (43_branch_jump.md R553,
43_branch_jump.md R554, 43_branch_jump.md R560, 43_branch_jump.md R561, 43_branch_jump.md R562,
43_branch_jump.md R563, 43_branch_jump.md R570, 43_branch_jump.md R571, 43_branch_jump.md R578,
43_branch_jump.md R579) -/
def Obligations.JumpsAndLinks : Prop :=
  ∀ (s : State) (rs rd : Reg) (target : BitVec 26) (imm : Imm16), s.inSlot = false →
    let near : Word := (s.pc + 4).extractLsb' 28 36 ++ target ++ (0 : BitVec 2)
    let far := s.pc + 4 + BitVec.ofInt 64 (4 * imm.toInt)
    let linked := { s with gpr := s.gpr.set 31 (s.pc + 8) }
    let neg := decide ((s.reg rs).toInt < 0)
    Does (.j target) s (BranchesTo true near)
    ∧ Does (.jal target) s (fun _ t => BranchesTo true near linked t)
    ∧ Does (.jr rs) s (BranchesTo true (s.reg rs))
    ∧ Does (.jalr rs rd) s (fun s t => BranchesTo true (s.reg rs)
        (if rd = 0 then s else { s with gpr := s.gpr.set rd.toNat (s.pc + 8) rd.isLt }) t)
    ∧ Does (.bltzal rs imm) s (fun _ t => BranchesTo neg far linked t)
    ∧ Does (.bgezal rs imm) s (fun _ t => BranchesTo (!neg) far linked t)
    ∧ Does (.bltzall rs imm) s (fun _ t => LikelyTo neg far linked t)
    ∧ Does (.bgezall rs imm) s (fun _ t => LikelyTo (!neg) far linked t)

/-- A branch, jump or ERET in a delay slot stops the machine (the model's choice, D28, log 15). MIPS does
not define the case and the manual does not mention it; that the model stops is decision D28 of R555,
log 15. In a delay slot every jump and branch of 43_branch_jump.md, every BC1x (with CP1 usable) and
ERET (with CP0 usable) ends in the fault branchInDelaySlot. (43_branch_jump.md R555) -/
def Obligations.BranchInSlotStops : Prop :=
  ∀ (s : State) (rs rt rd : Reg) (imm : Imm16) (target : BitVec 26), s.inSlot = true →
    (∀ i ∈ ([
        .j target, .jal target, .jr rs, .jalr rs rd, .beq rs rt imm, .bne rs rt imm, .blez rs imm,
        .bgtz rs imm, .bltz rs imm, .bgez rs imm, .beql rs rt imm, .bnel rs rt imm, .blezl rs imm,
        .bgtzl rs imm, .bltzl rs imm, .bgezl rs imm, .bltzal rs imm, .bgezal rs imm, .bltzall rs imm,
        .bgezall rs imm] : List Instr),
      exec i s = .fault .branchInDelaySlot)
    ∧ (s.cu 1 = true → ∀ i ∈ ([.bc1f imm, .bc1t imm, .bc1fl imm, .bc1tl imm] : List Instr),
      exec i s = .fault .branchInDelaySlot)
    ∧ (s.cp0Usable = true → exec .eret s = .fault .branchInDelaySlot)

/-- SYSCALL and BREAK take their exceptions; a conditional trap takes Trap when its condition holds, else
completes. For every code SYSCALL takes System call and BREAK Breakpoint. Each of the twelve conditional
traps takes Trap when its condition holds and else changes nothing but the pc: signed forms compare
integers, unsigned ones naturals, all 64 bits, the immediate sign-extended in every immediate form; the
code field plays no part. (45_special_trap.md R631, 45_special_trap.md R632, 45_special_trap.md R633,
45_special_trap.md R634, 45_special_trap.md R635, 45_special_trap.md R636, 45_special_trap.md R637,
45_special_trap.md R638, 45_special_trap.md R639, 45_special_trap.md R640, 45_special_trap.md R641,
45_special_trap.md R645) -/
def Obligations.CallsAndTraps : Prop :=
  (∀ (s : State) (code : BitVec 20), Takes (.syscall code) .syscall s ∧ Takes (.brk code) .breakpoint s)
  ∧ ∀ (s : State) (rs rt : Reg) (code : BitVec 10) (imm : Imm16),
    let x := s.reg rs
    let y := s.reg rt
    let z : Word := BitVec.ofInt 64 imm.toInt
    TrapsWhen (.tge rs rt code) s (y.toInt ≤ x.toInt)
    ∧ TrapsWhen (.tgeu rs rt code) s (y.toNat ≤ x.toNat)
    ∧ TrapsWhen (.tlt rs rt code) s (x.toInt < y.toInt)
    ∧ TrapsWhen (.tltu rs rt code) s (x.toNat < y.toNat)
    ∧ TrapsWhen (.teq rs rt code) s (x = y)
    ∧ TrapsWhen (.tne rs rt code) s (x ≠ y)
    ∧ TrapsWhen (.tgei rs imm) s (imm.toInt ≤ x.toInt)
    ∧ TrapsWhen (.tgeiu rs imm) s (z.toNat ≤ x.toNat)
    ∧ TrapsWhen (.tlti rs imm) s (x.toInt < imm.toInt)
    ∧ TrapsWhen (.tltiu rs imm) s (x.toNat < z.toNat)
    ∧ TrapsWhen (.teqi rs imm) s (x.toInt = imm.toInt)
    ∧ TrapsWhen (.tnei rs imm) s (x.toInt ≠ imm.toInt)

/-- The seven loads complete on readable uncached DDR2: value, extension, and nothing else changed. Where
the operand at base + offset is n accessible uncached DDR2 bytes from DDR2 address a (PlainRam) and rt
is not 0, the load completes and rt takes the little-endian number of those bytes, sign- or zero-
extended; every other register and every byte of memory stay. (40_load_store.md R401, 40_load_store.md
R404, 40_load_store.md R405, 40_load_store.md R406, 40_load_store.md R407, 40_load_store.md R408,
40_load_store.md R409, 40_load_store.md R410, 20_memory.md R250) -/
def Obligations.Loads : Prop :=
  ∀ (s : State) (base rt : Reg) (offset : Imm16) (a : Nat), rt ≠ 0 →
    let va := s.reg base + BitVec.ofInt 64 offset.toInt
    let ok := fun n => PlainRam s false (alignedTo n va) va va n a
    (ok 1 → Does (.lb base rt offset) s (OnlyGpr rt (BitVec.ofInt 64 (BitVec.ofNat 8 (ddrNat s a 1)).toInt)))
    ∧ (ok 1 → Does (.lbu base rt offset) s (OnlyGpr rt (BitVec.ofNat 64 (ddrNat s a 1))))
    ∧ (ok 2 → Does (.lh base rt offset) s (OnlyGpr rt (BitVec.ofInt 64 (BitVec.ofNat 16 (ddrNat s a 2)).toInt)))
    ∧ (ok 2 → Does (.lhu base rt offset) s (OnlyGpr rt (BitVec.ofNat 64 (ddrNat s a 2))))
    ∧ (ok 4 → Does (.lw base rt offset) s (OnlyGpr rt (BitVec.ofInt 64 (BitVec.ofNat 32 (ddrNat s a 4)).toInt)))
    ∧ (ok 4 → Does (.lwu base rt offset) s (OnlyGpr rt (BitVec.ofNat 64 (ddrNat s a 4))))
    ∧ (ok 8 → Does (.ld base rt offset) s (OnlyGpr rt (BitVec.ofNat 64 (ddrNat s a 8))))

/-- LWL, LWR, LDL and LDR complete: byte by byte, which come from memory and which stay. With b the address
modulo 4 (or 8): LWL takes bytes aw..va into the high end of the word, LWR bytes va..aw+3 into the low
end, both then sign-extended from bit 31 (for LWR at an address that is no multiple of 4 that is R413's
choice, decision D1, the spec's own); LDL and LDR the same on doublewords; the other bytes are those rt
held. Everything else stays. (40_load_store.md R411, 40_load_store.md R412, 40_load_store.md R413,
40_load_store.md R414, 40_load_store.md R415) -/
def Obligations.UnalignedLoads : Prop :=
  ∀ (s : State) (base rt : Reg) (offset : Imm16) (a : Nat), rt ≠ 0 →
    let va := s.reg base + BitVec.ofInt 64 offset.toInt
    let b := va.toNat % 4
    let d := va.toNat % 8
    let old := fun k => (s.reg rt).extractLsb' (8 * k) 8
    (PlainRam s false true va (va - BitVec.ofNat 64 b) (b + 1) a →
      Does (.lwl base rt offset) s (fun s t => ∃ v, OnlyGpr rt v s t ∧ IsWord v ∧ ∀ k, k < 4 →
        v.extractLsb' (8 * k) 8 = if 3 - b ≤ k then readByte s.mem.ddr (a + (k - (3 - b))) else old k))
    ∧ (PlainRam s false true va va (4 - b) a →
      Does (.lwr base rt offset) s (fun s t => ∃ v, OnlyGpr rt v s t ∧ IsWord v ∧ ∀ k, k < 4 →
        v.extractLsb' (8 * k) 8 = if k + b ≤ 3 then readByte s.mem.ddr (a + k) else old k))
    ∧ (PlainRam s false true va (va - BitVec.ofNat 64 d) (d + 1) a →
      Does (.ldl base rt offset) s (fun s t => ∃ v, OnlyGpr rt v s t ∧ ∀ k, k < 8 →
        v.extractLsb' (8 * k) 8 = if 7 - d ≤ k then readByte s.mem.ddr (a + (k - (7 - d))) else old k))
    ∧ (PlainRam s false true va va (8 - d) a →
      Does (.ldr base rt offset) s (fun s t => ∃ v, OnlyGpr rt v s t ∧ ∀ k, k < 8 →
        v.extractLsb' (8 * k) 8 = if k + d ≤ 7 then readByte s.mem.ddr (a + k) else old k))

/-- A load to register 0 raises no exception and changes no register (Watch too: the model's choice, D1, log
24). For each of the eleven loads with rt = 0, in a defined mode: whatever exception the checks would
raise, and for every uncached address, a watched one too, the load completes and nothing but the pc
changes; whatever next state it gives, at a cached address too, only the memory system and the pc have
changed. That Watch is masked as well is R403's extension (decision D1, log 24), the model's choice. (At
a cached address a free value decides whether the line is filled, log 24.) (40_load_store.md R403,
10_state.md R101) -/
def Obligations.LoadToRegisterZero : Prop :=
  ∀ (s : State) (base : Reg) (offset : Imm16),
    let va := s.reg base + BitVec.ofInt 64 offset.toInt
    let quiet := fun n : Nat => (∃ e, translate s .load (alignedTo n va) va = .exc e)
      ∨ ∃ pa c, translate s .load (alignedTo n va) va = .ok pa c ∧ c ≠ 3
    (quiet 1 → ∀ i ∈ ([
        .lb base 0 offset, .lbu base 0 offset, .lwl base 0 offset, .lwr base 0 offset,
        .ldl base 0 offset, .ldr base 0 offset] : List Instr), Does i s OnlyPc)
    ∧ (quiet 2 → ∀ i ∈ ([.lh base 0 offset, .lhu base 0 offset] : List Instr), Does i s OnlyPc)
    ∧ (quiet 4 → ∀ i ∈ ([.lw base 0 offset, .lwu base 0 offset] : List Instr), Does i s OnlyPc)
    ∧ (quiet 8 → Does (.ld base 0 offset) s OnlyPc)
    ∧ ∀ i ∈ ([
        .lb base 0 offset, .lbu base 0 offset, .lwl base 0 offset, .lwr base 0 offset,
        .ldl base 0 offset, .ldr base 0 offset, .lh base 0 offset, .lhu base 0 offset,
        .lw base 0 offset, .lwu base 0 offset, .ld base 0 offset] : List Instr),
      ∀ t, exec i s = .next t → OnlyPc s { t with mem := s.mem }

/-- SB, SH, SW and SD complete on writable uncached DDR2: the bytes stored, and every other byte kept. Where
the operand is n accessible uncached DDR2 bytes from DDR2 address a, DDR2 is canonical and the gather
buffer is empty, the store completes: byte k from a takes bits [8k+7:8k] of rt for k below n, every
other byte of DDR2, every register and the rest of the memory system stay. (40_load_store.md R401,
40_load_store.md R420, 40_load_store.md R421, 40_load_store.md R422, 40_load_store.md R423, 20_memory.md
R250) -/
def Obligations.Stores : Prop :=
  ∀ (s : State) (base rt : Reg) (offset : Imm16) (a : Nat),
    Memory.wf s.mem.ddr = true → s.mem.gather = none →
    let va := s.reg base + BitVec.ofInt 64 offset.toInt
    let ok := fun n => PlainRam s true (alignedTo n va) va va n a
    (ok 1 → Does (.sb base rt offset) s (OnlyDdr a 1 (s.reg rt)))
    ∧ (ok 2 → Does (.sh base rt offset) s (OnlyDdr a 2 (s.reg rt)))
    ∧ (ok 4 → Does (.sw base rt offset) s (OnlyDdr a 4 (s.reg rt)))
    ∧ (ok 8 → Does (.sd base rt offset) s (OnlyDdr a 8 (s.reg rt)))

/-- SWL, SWR, SDL and SDR complete: the bytes stored, and every other byte kept. SWL stores the high end of
the word in rt to bytes aw..va, SWR the low end to va..aw+3, SDL and SDR the same of the doubleword;
every other byte of DDR2 and everything else stays. (40_load_store.md R411, 40_load_store.md R416,
40_load_store.md R417, 40_load_store.md R418, 40_load_store.md R419) -/
def Obligations.UnalignedStores : Prop :=
  ∀ (s : State) (base rt : Reg) (offset : Imm16) (a : Nat),
    Memory.wf s.mem.ddr = true → s.mem.gather = none →
    let va := s.reg base + BitVec.ofInt 64 offset.toInt
    let b := va.toNat % 4
    let d := va.toNat % 8
    (PlainRam s true true va (va - BitVec.ofNat 64 b) (b + 1) a →
      Does (.swl base rt offset) s (OnlyDdr a (b + 1) (s.reg rt >>> (8 * (3 - b)))))
    ∧ (PlainRam s true true va va (4 - b) a →
      Does (.swr base rt offset) s (OnlyDdr a (4 - b) (s.reg rt)))
    ∧ (PlainRam s true true va (va - BitVec.ofNat 64 d) (d + 1) a →
      Does (.sdl base rt offset) s (OnlyDdr a (d + 1) (s.reg rt >>> (8 * (7 - d)))))
    ∧ (PlainRam s true true va va (8 - d) a →
      Does (.sdr base rt offset) s (OnlyDdr a (8 - d) (s.reg rt)))

/-- LL and LLD load and set the link; SC and SCD store under it or fail, and clear it (decision D7, log 23).
The link model is R428's decision D7, log 23, the model's choice: a hidden LLbit and physical LLaddr,
success with LLbit = 1 at the same address, failure with LLbit = 0; with LLbit = 1 at another address a
free value decides between the two (R431), and of that case it is only said that one of the two happens.
On readable uncached DDR2, LL and LLD load rt and set LLbit and LLaddr. SC and SCD with LLbit = 1 and
LLaddr the physical address of the operand store, put 1 into rt and clear LLbit; a watched address then
takes Watch instead, whatever EXL is (decision D31, log 41); with LLbit = 0 and an access that passes
the checks of alignment, segment and TLB they store nothing, put 0 into rt and raise no Watch.
Everything else stays. (40_load_store.md R428, 40_load_store.md R429, 40_load_store.md R430,
40_load_store.md R431, 40_load_store.md R432) -/
def Obligations.LinkedAccesses : Prop :=
  ∀ (s : State) (base rt : Reg) (offset : Imm16) (a : Nat),
    let va := s.reg base + BitVec.ofInt 64 offset.toInt
    let linked := fun (n : Nat) (v : Word) (s t : State) => t.llBit = true
      ∧ (∃ c, translateData s false (alignedTo n va) va = .ok t.llAddr c)
      ∧ OnlyGpr rt v s { t with llBit := s.llBit, llAddr := s.llAddr }
    let stored := fun (n : Nat) (s t : State) => t.llBit = false
      ∧ t.reg rt = (if rt = 0 then 0 else 1) ∧ (∀ q, q ≠ rt → t.reg q = s.reg q)
      ∧ OnlyDdr a n (s.reg rt) s { t with llBit := s.llBit, gpr := s.gpr }
    let failed := fun (s t : State) => t.llBit = false ∧ OnlyGpr rt 0 s { t with llBit := s.llBit }
    (PlainRam s false (alignedTo 4 va) va va 4 a →
      Does (.ll base rt offset) s (linked 4 (BitVec.ofInt 64 (BitVec.ofNat 32 (ddrNat s a 4)).toInt)))
    ∧ (PlainRam s false (alignedTo 8 va) va va 8 a →
      Does (.lld base rt offset) s (linked 8 (BitVec.ofNat 64 (ddrNat s a 8))))
    ∧ (Memory.wf s.mem.ddr = true → s.mem.gather = none → s.llBit = true →
      (PlainRam s true (alignedTo 4 va) va va 4 a →
        (∃ c, translateData s true (alignedTo 4 va) va = .ok s.llAddr c) →
        Does (.sc base rt offset) s (stored 4))
      ∧ (PlainRam s true (alignedTo 8 va) va va 8 a →
        (∃ c, translateData s true (alignedTo 8 va) va = .ok s.llAddr c) →
        Does (.scd base rt offset) s (stored 8))
      ∧ (PlainRam s true (alignedTo 4 va) va va 4 a →
        Does (.sc base rt offset) s (fun s t => stored 4 s t ∨ failed s t))
      ∧ (PlainRam s true (alignedTo 8 va) va va 8 a →
        Does (.scd base rt offset) s (fun s t => stored 8 s t ∨ failed s t)))
    ∧ (s.llBit = true → va.extractLsb' 3 61 = s.cp0.watch.extractLsb' 3 61 → s.cp0.watch.getLsbD 0 = true →
      ((∃ c, translate s .store (alignedTo 4 va) va = .ok s.llAddr c) → Takes (.sc base rt offset) .watch s)
      ∧ ((∃ c, translate s .store (alignedTo 8 va) va = .ok s.llAddr c) →
        Takes (.scd base rt offset) .watch s))
    ∧ (s.llBit = false →
      ((∃ pa c, translate s .store (alignedTo 4 va) va = .ok pa c) → Does (.sc base rt offset) s failed)
      ∧ ((∃ pa c, translate s .store (alignedTo 8 va) va = .ok pa c) → Does (.scd base rt offset) s failed))

/-- LWC1, LDC1, SWC1 and SDC1 complete on uncached DDR2 with CP1 usable. LWC1 puts the word into the 32-bit
floating register (with FR = 1 the upper half is a free value, log 28), LDC1 the doubleword into the
64-bit one, SWC1 and SDC1 store them; LDC1 and SDC1 need an even register or FR = 1. Everything else
stays. (40_load_store.md R424, 40_load_store.md R425, 40_load_store.md R426, 40_load_store.md R427,
10_state.md R114) -/
def Obligations.FloatingLoadsStores : Prop :=
  ∀ (s : State) (base ft : Reg) (offset : Imm16) (a : Nat), s.cu 1 = true →
    let va := s.reg base + BitVec.ofInt 64 offset.toInt
    (PlainRam s false (alignedTo 4 va) va va 4 a →
      Does (.lwc1 base ft offset) s (OnlyFprS ft (BitVec.ofNat 32 (ddrNat s a 4)) s.fcr31))
    ∧ (s.doubleOk ft = true → PlainRam s false (alignedTo 8 va) va va 8 a →
      Does (.ldc1 base ft offset) s (OnlyFprD ft (BitVec.ofNat 64 (ddrNat s a 8)) s.fcr31))
    ∧ (Memory.wf s.mem.ddr = true → s.mem.gather = none → PlainRam s true (alignedTo 4 va) va va 4 a →
      Does (.swc1 base ft offset) s (OnlyDdr a 4 ((s.fprS ft).setWidth 64)))
    ∧ (Memory.wf s.mem.ddr = true → s.mem.gather = none → s.doubleOk ft = true →
      PlainRam s true (alignedTo 8 va) va va 8 a →
      Does (.sdc1 base ft offset) s (OnlyDdr a 8 (s.fprAt ft)))

/-- SYNC completes with the gather buffer empty and its bytes in memory, and changes no register. With
nothing gathered SYNC changes nothing but the pc. Where the gathered bytes go out it leaves the memory
system they leave, the buffer empty, and everything else as it was. Where the gathered line is DDR2 from
DDR2 address a up, the controller ready and the line within the memory, SYNC completes, the buffer is
empty, DDR2 byte a + k is byte k of the buffer for every byte held, every other byte of DDR2 and
everything else stays. (40_load_store.md R434, 20_memory.md R297, 20_memory.md R303) -/
def Obligations.SyncDrains : Prop :=
  ∀ s : State,
    (s.mem.gather = none → Does .sync s OnlyPc)
    ∧ (∀ m, drainGather s.ctx s.mem = .ok () m →
        Does .sync s (fun s t => t.mem = m ∧ t.mem.gather = none ∧ OnlyPc s { t with mem := s.mem }))
    ∧ ∀ (g : GatherBuf) (a : Nat), s.mem.gather = some g → Memory.wf s.mem.ddr = true →
      (∀ k, k < 32 → route s.mem.chip (g.line ++ BitVec.ofNat 5 k : PAddr).toNat = .ok (.ddr (a + k))) →
      s.mem.chip.ddrReady = true → a + 32 ≤ s.params.ddrSize →
      Does .sync s (fun s t => t.mem.gather = none
        ∧ (∀ k, k < 32 → g.held.getLsbD k = true →
          readByte t.mem.ddr (a + k) = g.data.extractLsb' (8 * k) 8)
        ∧ (∀ q, (∀ k, k < 32 → g.held.getLsbD k = true → q ≠ a + k) →
          readByte t.mem.ddr q = readByte s.mem.ddr q)
        ∧ OnlyPc s { t with mem := { t.mem with ddr := s.mem.ddr, gather := s.mem.gather } })

/-- Loads and stores that hit the data cache (no miss is stated) complete there; integer stores with
attribute 7 enter the gather buffer. Hits only: how a miss fills a line is not stated here. With the
three caches initialised and exactly one way of the data cache holding the line (attribute 3): a load of
a register other than 0 takes the little-endian number of the line's bytes, extended, and changes
nothing else, no cache and no memory; LWL, LWR, LDL and LDR take the bytes of the line that they take
from memory elsewhere; LL and LLD, of any register, also set the link; LWC1 and LDC1, with CP1 usable,
load a floating register. A store, aligned, unaligned, floating, or SC and SCD under the link (which
then put 1 into rt and clear LLbit), replaces its bytes in the line and makes it Dirty; every other
line, DDR2 and everything else stay. A store with attribute 7, the gather buffer empty or holding the
same line and not full afterwards, puts its bytes into the buffer and changes nothing else. (That every
attribute-7 store to the line is gathered, whatever its width and order, is the model's choice, log 21;
that a line stored to keeps its W bit, of which nothing is said, log 20; the link is decision D7, log
23.) (20_memory.md R292, 20_memory.md R297, 20_memory.md R299, 40_load_store.md R401, 40_load_store.md
R404, 40_load_store.md R411, 40_load_store.md R420, 40_load_store.md R424, 40_load_store.md R426,
40_load_store.md R429, 40_load_store.md R431, 10_state.md R130) -/
def Obligations.CachedAccesses : Prop :=
  ∀ (s : State) (base rt : Reg) (offset : Imm16),
    let va := s.reg base + BitVec.ofInt 64 offset.toInt
    let set := (va.extractLsb' 5 9).toNat
    let off := va.toNat % 32
    let stores : List (Instr × Nat) :=
      [(.sb base rt offset, 1), (.sh base rt offset, 2), (.sw base rt offset, 4), (.sd base rt offset, 8)]
    (∀ w : Nat, rt ≠ 0 →
      let num := lineNat (dGet s.mem set w).data off
      let hit := fun n : Nat => CacheHit s false (alignedTo n va) va w
      (hit 1 → Does (.lb base rt offset) s (OnlyGpr rt (BitVec.ofInt 64 (BitVec.ofNat 8 (num 1)).toInt)))
      ∧ (hit 1 → Does (.lbu base rt offset) s (OnlyGpr rt (BitVec.ofNat 64 (num 1))))
      ∧ (hit 2 → Does (.lh base rt offset) s (OnlyGpr rt (BitVec.ofInt 64 (BitVec.ofNat 16 (num 2)).toInt)))
      ∧ (hit 2 → Does (.lhu base rt offset) s (OnlyGpr rt (BitVec.ofNat 64 (num 2))))
      ∧ (hit 4 → Does (.lw base rt offset) s (OnlyGpr rt (BitVec.ofInt 64 (BitVec.ofNat 32 (num 4)).toInt)))
      ∧ (hit 4 → Does (.lwu base rt offset) s (OnlyGpr rt (BitVec.ofNat 64 (num 4))))
      ∧ (hit 8 → Does (.ld base rt offset) s (OnlyGpr rt (BitVec.ofNat 64 (num 8)))))
    ∧ (∀ w : Nat, ∀ p ∈ stores, CacheHit s true (alignedTo p.2 va) va w →
      Does p.1 s (OnlyLine set w off p.2 (s.reg rt)))
    ∧ (∀ w : Nat,
      let line := (dGet s.mem set w).data
      let num := lineNat line off
      let byte := fun j : Nat => line.extractLsb' (8 * j) 8
      let old := fun k : Nat => (s.reg rt).extractLsb' (8 * k) 8
      let b := va.toNat % 4
      let d := va.toNat % 8
      let partly := fun (n : Nat) (f : Nat → Byte) (s t : State) =>
        ∃ v, OnlyGpr rt v s t ∧ (n = 4 → IsWord v) ∧ ∀ k, k < n → v.extractLsb' (8 * k) 8 = f k
      let linked := fun (n : Nat) (v : Word) (s t : State) => t.llBit = true
        ∧ translateData s false (alignedTo n va) va = .ok t.llAddr 3
        ∧ OnlyGpr rt v s { t with llBit := s.llBit, llAddr := s.llAddr }
      let kept := fun (n : Nat) (s t : State) => t.llBit = false
        ∧ t.reg rt = (if rt = 0 then 0 else 1) ∧ (∀ q, q ≠ rt → t.reg q = s.reg q)
        ∧ OnlyLine set w off n (s.reg rt) s { t with llBit := s.llBit, gpr := s.gpr }
      (rt ≠ 0 → CacheHit s false true va w →
        Does (.lwl base rt offset) s (partly 4 fun k => if 3 - b ≤ k then byte (off - b + (k - (3 - b))) else old k)
        ∧ Does (.lwr base rt offset) s (partly 4 fun k => if k + b ≤ 3 then byte (off + k) else old k)
        ∧ Does (.ldl base rt offset) s (partly 8 fun k => if 7 - d ≤ k then byte (off - d + (k - (7 - d))) else old k)
        ∧ Does (.ldr base rt offset) s (partly 8 fun k => if k + d ≤ 7 then byte (off + k) else old k))
      ∧ (CacheHit s true true va w →
        Does (.swl base rt offset) s (OnlyLine set w (off - b) (b + 1) (s.reg rt >>> (8 * (3 - b))))
        ∧ Does (.swr base rt offset) s (OnlyLine set w off (4 - b) (s.reg rt))
        ∧ Does (.sdl base rt offset) s (OnlyLine set w (off - d) (d + 1) (s.reg rt >>> (8 * (7 - d))))
        ∧ Does (.sdr base rt offset) s (OnlyLine set w off (8 - d) (s.reg rt)))
      ∧ (CacheHit s false (alignedTo 4 va) va w →
        Does (.ll base rt offset) s (linked 4 (BitVec.ofInt 64 (BitVec.ofNat 32 (num 4)).toInt))
        ∧ (s.cu 1 = true → Does (.lwc1 base rt offset) s (OnlyFprS rt (BitVec.ofNat 32 (num 4)) s.fcr31)))
      ∧ (CacheHit s false (alignedTo 8 va) va w →
        Does (.lld base rt offset) s (linked 8 (BitVec.ofNat 64 (num 8)))
        ∧ (s.cu 1 = true → s.doubleOk rt = true →
          Does (.ldc1 base rt offset) s (OnlyFprD rt (BitVec.ofNat 64 (num 8)) s.fcr31)))
      ∧ (CacheHit s true (alignedTo 4 va) va w →
        (s.llBit = true → translateData s true (alignedTo 4 va) va = .ok s.llAddr 3 →
          Does (.sc base rt offset) s (kept 4))
        ∧ (s.cu 1 = true → Does (.swc1 base rt offset) s (OnlyLine set w off 4 ((s.fprS rt).setWidth 64))))
      ∧ (CacheHit s true (alignedTo 8 va) va w →
        (s.llBit = true → translateData s true (alignedTo 8 va) va = .ok s.llAddr 3 →
          Does (.scd base rt offset) s (kept 8))
        ∧ (s.cu 1 = true → s.doubleOk rt = true →
          Does (.sdc1 base rt offset) s (OnlyLine set w off 8 (s.fprAt rt)))))
    ∧ ∀ p ∈ stores, ∀ pa, translateData s true (alignedTo p.2 va) va = .ok pa 7 →
      (∀ g, s.mem.gather = some g → g.line = pa.extractLsb' 5 35) →
      (∃ j, j < 32 ∧ (j < off ∨ off + p.2 ≤ j)
        ∧ ∀ g, s.mem.gather = some g → g.held.getLsbD j = false) →
      Does p.1 s (OnlyGather (pa.extractLsb' 5 35) off p.2 (s.reg rt))

/-- A misaligned access or fetch takes the address error, a watched access takes Watch, and does nothing
else. In a defined mode, a load of a register other than 0 and LL, LLD of any register (that LL and LLD
of register 0 are ordinary accesses is R403's decision D7, log 23, the model's choice) at a misaligned
address take AddressErrorL, a store (SC and SCD included) AddressErrorS, with BadVAddr the address; the
floating ones with CP1 usable (and an even register or FR = 1 for the doubleword forms). A fetch at a pc
that is no multiple of 4 takes AddressErrorL. A load or store whose address passes the checks of
alignment, segment and TLB and lies in the watched doubleword with its bit set takes Watch, whatever EXL
is (decision D31, log 41). (20_memory.md R256, 20_memory.md R258, 60_exceptions.md R855,
40_load_store.md R401, 40_load_store.md R403, 11_cp0_registers.md R202, 60_exceptions.md R873) -/
def Obligations.MisalignedOrWatched : Prop :=
  (∀ (s : State) (base rt : Reg) (offset : Imm16), s.mode ≠ none →
    let va := s.reg base + BitVec.ofInt 64 offset.toInt
    let load := fun i : Instr => Takes i (.addressError false va) s
    let store := fun i : Instr => Takes i (.addressError true va) s
    (va.toNat % 2 ≠ 0 → (rt ≠ 0 → load (.lh base rt offset) ∧ load (.lhu base rt offset))
      ∧ store (.sh base rt offset))
    ∧ (va.toNat % 4 ≠ 0 → (rt ≠ 0 → load (.lw base rt offset) ∧ load (.lwu base rt offset))
      ∧ load (.ll base rt offset) ∧ store (.sw base rt offset) ∧ store (.sc base rt offset)
      ∧ (s.cu 1 = true → load (.lwc1 base rt offset) ∧ store (.swc1 base rt offset)))
    ∧ (va.toNat % 8 ≠ 0 → (rt ≠ 0 → load (.ld base rt offset))
      ∧ load (.lld base rt offset) ∧ store (.sd base rt offset) ∧ store (.scd base rt offset)
      ∧ (s.cu 1 = true → s.doubleOk rt = true →
        load (.ldc1 base rt offset) ∧ store (.sdc1 base rt offset))))
  ∧ (∀ s : State, s.mode ≠ none → s.pc.toNat % 4 ≠ 0 →
      fetch s = .taken (takeException (.addressError false s.pc) s))
  ∧ ∀ (s : State) (base rt : Reg) (offset : Imm16),
    let va := s.reg base + BitVec.ofInt 64 offset.toInt
    let reads := fun n : Nat => s.cp0.watch.getLsbD 1 = true
      ∧ ∃ pa c, translate s .load (alignedTo n va) va = .ok pa c
    let writes := fun n : Nat => s.cp0.watch.getLsbD 0 = true
      ∧ ∃ pa c, translate s .store (alignedTo n va) va = .ok pa c
    va.extractLsb' 3 61 = s.cp0.watch.extractLsb' 3 61 →
      (reads 1 → rt ≠ 0 → ∀ i ∈ ([.lb base rt offset, .lbu base rt offset, .lwl base rt offset, .lwr base rt offset, .ldl base rt offset, .ldr base rt offset] : List Instr),
        Takes i .watch s)
      ∧ (reads 2 → rt ≠ 0 → ∀ i ∈ ([.lh base rt offset, .lhu base rt offset] : List Instr),
        Takes i .watch s)
      ∧ (reads 4 → rt ≠ 0 → ∀ i ∈ ([.lw base rt offset, .lwu base rt offset] : List Instr),
        Takes i .watch s)
      ∧ (reads 8 → rt ≠ 0 → ∀ i ∈ ([.ld base rt offset] : List Instr),
        Takes i .watch s)
      ∧ (reads 4 → Takes (.ll base rt offset) .watch s)
      ∧ (reads 8 → Takes (.lld base rt offset) .watch s)
      ∧ (writes 1 → ∀ i ∈ ([.sb base rt offset, .swl base rt offset, .swr base rt offset, .sdl base rt offset, .sdr base rt offset] : List Instr),
        Takes i .watch s)
      ∧ (writes 2 → ∀ i ∈ ([.sh base rt offset] : List Instr),
        Takes i .watch s)
      ∧ (writes 4 → ∀ i ∈ ([.sw base rt offset] : List Instr),
        Takes i .watch s)
      ∧ (writes 8 → ∀ i ∈ ([.sd base rt offset] : List Instr),
        Takes i .watch s)
      ∧ (s.cu 1 = true → (reads 4 → Takes (.lwc1 base rt offset) .watch s)
        ∧ (writes 4 → Takes (.swc1 base rt offset) .watch s)
        ∧ (s.doubleOk rt = true → (reads 8 → Takes (.ldc1 base rt offset) .watch s)
          ∧ (writes 8 → Takes (.sdc1 base rt offset) .watch s)))

/-- CKSEG0, CKSEG1 and XKPHY go to physical memory directly, in kernel mode only, for loads, stores and
fetches. In kernel mode an aligned access to CKSEG0 reaches va[28:0] with the attribute Config.K0 and
one to CKSEG1 reaches va[28:0] uncached; one to XKPHY reaches va[39:0] with the attribute va[61:59], or
is an address error when va[58:40] is not 0; a word-aligned fetch comes to the same and leaves the ITLB;
the reset vector is physical 0x1FC00000; in supervisor and user mode every access and fetch to the three
is an address error. (20_memory.md R265, 20_memory.md R266, 20_memory.md R268, 20_memory.md R269,
20_memory.md R271, 20_memory.md R272, 20_memory.md R273, 20_memory.md R267, 20_memory.md R284) -/
def Obligations.KernelUnmappedSegments : Prop :=
  (∀ (s : State) (acc : Access) (x : BitVec 29), s.mode = some .kernel →
      translate s acc true ((0x7FFFFFFFC : BitVec 35) ++ x)
        = .ok ((0 : BitVec 11) ++ x) (s.cp0.config.extractLsb' 0 3)
      ∧ translate s acc true ((0x7FFFFFFFD : BitVec 35) ++ x) = .ok ((0 : BitVec 11) ++ x) 2)
    ∧ (∀ (s : State) (acc : Access) (c : BitVec 3) (z : BitVec 19) (x : PAddr), s.mode = some .kernel →
      let va : Word := (2 : BitVec 2) ++ c ++ z ++ x
      translate s acc true va = if z = 0 then .ok x c else .exc (.addressError (acc == .store) va))
    ∧ (∀ s : State, s.mode = some .kernel → translate s .fetch true resetVector = .ok 0x001FC00000 2)
    ∧ (∀ (s : State) (y : BitVec 62) (x : BitVec 29), s.mode = some .kernel →
      ∀ va ∈ [(0x7FFFFFFFC : BitVec 35) ++ x, (0x7FFFFFFFD : BitVec 35) ++ x, (2 : BitVec 2) ++ y],
        va.toNat % 4 = 0 → translateFetch s va = (translate s .fetch true va, s.itlb))
    ∧ ∀ (s : State) (acc : Access) (al : Bool) (x : BitVec 29) (y : BitVec 62),
      s.mode = some .supervisor ∨ s.mode = some .user →
      ∀ va ∈ [(0x7FFFFFFFC : BitVec 35) ++ x, (0x7FFFFFFFD : BitVec 35) ++ x, (2 : BitVec 2) ++ y],
        translate s acc al va = .exc (.addressError (acc == .store) va)
          ∧ translateFetch s va = (.exc (.addressError false va), s.itlb)

/-- Which JTLB entry an address matches, and what a mapped access and a mapped fetch through the ITLB come
to. An entry matches when VPN2 agrees outside its mask, R is VA[63:62] (decision D13, log 17) and G is
set or ASID is EntryHi's. With one page size in the JTLB: no match gives TLB refill; with one, the
selected page is invalid (V = 0), modified (a store, D = 0), not executable (a fetch, E = 1), or gives
the physical address, its offset bits VA's, the others PFN's, and the attribute. A fetch from a page with
V = 0 and E = 1 is TLB invalid, the order of R278, or the address error, the order of R836, as the model's
parameter noExecFirst says, which is off by default (the model's choice, log 48). A fetch uses the only
held ITLB page that matches, stale or not, the ITLB staying; with none held it comes to what the JTLB
gives, that page then being held; a page size other than PageMask's stops it. That a held page is used
before the JTLB, stale or not, that it is matched under the size it was loaded with, and that a page is
held whatever its V and E are is the model's choice (log 18, R285's decision D6): R128 says only that
the ITLB may use it.
(20_memory.md R276, 20_memory.md R277, 20_memory.md R278, 20_memory.md R284, 20_memory.md R285,
20_memory.md R286, 11_cp0_registers.md R165, 10_state.md R128, 60_exceptions.md R836) -/
def Obligations.MappedAccess : Prop :=
  (∀ (s : State) (va : Word) (i : Fin 64),
      let e := s.tlb[i]
      let wide := (0 : BitVec 15) ++ e.mask
      i ∈ tlbHits s va ↔ e.vpn2 &&& ~~~wide = va.extractLsb' 13 27 &&& ~~~wide
        ∧ e.r = va.extractLsb' 62 2 ∧ (e.g = true ∨ e.asid = s.cp0.entryHi.extractLsb' 0 8))
  ∧ (∀ (s : State) (acc : Access) (va : Word), sameSize s = true →
    (tlbHits s va = [] → jtlb s acc va = .exc (.tlbRefill (acc == .store) va))
    ∧ ∀ i, tlbHits s va = [i] →
      let m := s.tlb[i].mask
      let off : PAddr := (0 : BitVec 16) ++ m ++ (0xFFF : BitVec 12)
      let p := if va.extractLsb' 12 13 &&& ((0 : BitVec 1) ++ m + 1) = 0 then s.tlb[i].even else s.tlb[i].odd
      let invalid := Trans.exc (.tlbInvalid (acc == .store) va)
      let barred := Trans.exc (.addressError false va)
      (p.v = false → (acc = .fetch → p.e = true → s.params.noExecFirst = false) → jtlb s acc va = invalid)
      ∧ (p.v = true → acc = .store → p.d = false → jtlb s acc va = .exc (.tlbModified va))
      ∧ (acc = .fetch → p.e = true → (p.v = true ∨ s.params.noExecFirst = true) → jtlb s acc va = barred)
      ∧ (p.v = true → (acc = .store → p.d = true) → (acc = .fetch → p.e = false) →
        ∃ pa, jtlb s acc va = .ok pa p.c ∧ pa &&& off = va.extractLsb' 0 40 &&& off
          ∧ pa &&& ~~~off = (p.pfn ++ (0 : BitVec 12)) &&& ~~~off
          ∧ (m = 0 → pa = p.pfn ++ va.extractLsb' 0 12)))
  ∧ ∀ (s : State) (md : Mode) (va : Word), s.mode = some md → va.toNat % 4 = 0 → sameSize s = true →
    segment (s.cp0.config.extractLsb' 0 3) md va = some .mapped →
    let size := s.cp0.pageMask.extractLsb' 13 12
    let fits := fun e : ItlbEntry =>
      let wide := (0 : BitVec 16) ++ e.mask
      e.vpn &&& ~~~wide = va.extractLsb' 12 28 &&& ~~~wide ∧ e.r = va.extractLsb' 62 2
        ∧ (e.g = true ∨ e.asid = s.cp0.entryHi.extractLsb' 0 8 ∨ s.params.itlbAsid = false)
    (∀ e ∈ s.itlb, fits e → (∀ d ∈ s.itlb, fits d → d = e) →
      let off : PAddr := (0 : BitVec 16) ++ e.mask ++ (0xFFF : BitVec 12)
      (e.mask ≠ size → (translateFetch s va).1 = .fault .tlbMixedPageSizes)
      ∧ (e.mask = size → e.page.e = true → (e.page.v = true ∨ s.params.noExecFirst = true) →
        translateFetch s va = (.exc (.addressError false va), s.itlb))
      ∧ (e.mask = size → e.page.v = false → (e.page.e = true → s.params.noExecFirst = false) →
        translateFetch s va = (.exc (.tlbInvalid false va), s.itlb))
      ∧ (e.mask = size → e.page.v = true → e.page.e = false →
        ∃ pa, translateFetch s va = (.ok pa e.page.c, s.itlb) ∧ pa &&& off = va.extractLsb' 0 40 &&& off
          ∧ pa &&& ~~~off = (e.page.pfn ++ (0 : BitVec 12)) &&& ~~~off))
    ∧ ((∀ e ∈ s.itlb, ¬fits e) →
      (tlbHits s va = [] → translateFetch s va = (.exc (.tlbRefill false va), s.itlb))
      ∧ ∀ i, tlbHits s va = [i] → s.tlb[i].mask = size →
        (translateFetch s va).1 = jtlb s .fetch va
        ∧ ∃ e ∈ (translateFetch s va).2, fits e ∧ e.page = s.tlb[i].page va)

/-- An address window's hit, translated address and route. For either master (registers from 0 or 12), an
address that matches exactly one window under its mask goes where MMAP[1:0] says, 0 to DDR2 and 1 to the
IO controller, at (address and not MASK) or MMAP[63:20]; MMAP[19:2] takes no part; routes 2 and 3, which
are not assigned, and an address that hits two windows are the spec's faults U42 and U43; an address
that matches none misses. (61_platform.md R913, 61_platform.md R914) -/
def Obligations.WindowTranslation : Prop :=
  ∀ (c : Chip) (base : Nat) (a : Word), base = 0 ∨ base = 12 →
    let reg := fun k => c.winRegs[base + k]!
    let hit := fun i => a &&& reg (4 + i) = reg i
    let out := fun i => ((a &&& ~~~reg (4 + i)) ||| ((reg (8 + i)).extractLsb' 20 44 ++ (0 : BitVec 20))).toNat
    ((∀ i, i < 4 → ¬hit i) → throughWindows c base a = .ok .miss)
    ∧ (∀ i, i < 4 → hit i → (∀ j, j < 4 → j ≠ i → ¬hit j) →
      ((reg (8 + i)).extractLsb' 0 2 = 0 → throughWindows c base a = .ok (.ddr (out i)))
      ∧ ((reg (8 + i)).extractLsb' 0 2 = 1 → throughWindows c base a = .ok (.io (out i)))
      ∧ ((reg (8 + i)).extractLsb' 1 1 = 1 → throughWindows c base a = .error .windowRoute))
    ∧ (∀ i j, i < 4 → j < 4 → i ≠ j → hit i → hit j → throughWindows c base a = .error .windowOverlap)

/-- MFC0, DMFC0, MTC0 and DMTC0 complete: which register each number reads, what each write changes. Each
register number reads its register, a 32-bit one sign-extended, a reserved one 0. Where CP0 is usable,
and for 24 and 25 always, MFC0 gives the sign-extended low word and DMFC0 all of that. Where it is
usable a write takes effect on the register's writable bits only and changes nothing else but: Compare
clears the timer latch, Wired sets Random to 63, Diagnostic.ITLB empties the ITLB; a write of a
serialisation bit of Diagnostic is refused; a write of any register but Diagnostic completes. The spec's
decisions, not the manual's words: MTC0 sign-extends into a 64-bit register (D30, R152), writes of read-
only and reserved registers are ignored and reserved ones read 0 (D29, R151, R156, R168), log 29; BTB
and ITLB of Diagnostic read 0 after a write, RAS and U-Mode are stored (D15, R213), log 30.
(46_cp0_privileged.md R660, 46_cp0_privileged.md R661, 46_cp0_privileged.md R662, 46_cp0_privileged.md
R663, 11_cp0_registers.md R151, 11_cp0_registers.md R152, 11_cp0_registers.md R156, 11_cp0_registers.md
R168, 11_cp0_registers.md R166, 11_cp0_registers.md R171, 11_cp0_registers.md R213, 11_cp0_registers.md
R224) -/
def Obligations.Cp0Moves : Prop :=
  (∀ s : State,
    s.cp0Read 0 = sext32 s.cp0.index ∧ s.cp0Read 1 = (0 : BitVec 58) ++ s.cp0.random
    ∧ s.cp0Read 2 = s.cp0.entryLo0 ∧ s.cp0Read 3 = s.cp0.entryLo1 ∧ s.cp0Read 4 = s.cp0.context
    ∧ s.cp0Read 5 = sext32 s.cp0.pageMask ∧ s.cp0Read 6 = (0 : BitVec 58) ++ s.cp0.wired
    ∧ s.cp0Read 8 = s.cp0.badVAddr ∧ s.cp0Read 9 = sext32 s.cp0.count ∧ s.cp0Read 10 = s.cp0.entryHi
    ∧ s.cp0Read 11 = sext32 s.cp0.compare ∧ s.cp0Read 12 = sext32 s.cp0.status
    ∧ s.cp0Read 13 = sext32 s.causeView ∧ s.cp0Read 14 = s.cp0.epc ∧ s.cp0Read 15 = 0x6302
    ∧ s.cp0Read 16 = sext32 s.cp0.config ∧ s.cp0Read 18 = s.cp0.watch ∧ s.cp0Read 20 = s.cp0.xcontext
    ∧ s.cp0Read 22 = s.cp0.diag ∧ s.cp0Read 24 = sext32 s.cp0.perfCtl
    ∧ s.cp0Read 25 = s.cp0.perfCnt1 ++ s.cp0.perfCnt0 ∧ s.cp0Read 28 = sext32 s.cp0.tagLo
    ∧ s.cp0Read 29 = sext32 s.cp0.tagHi ∧ s.cp0Read 30 = s.cp0.errorEpc
    ∧ ∀ n ∈ ([7, 19, 21, 23, 26, 27, 31] : List Reg), s.cp0Read n = 0)
  ∧ ∀ (s : State) (rt rd : Reg),
    let v := s.reg rt
    let onlyCp0 := fun (c : Cp0) (s t : State) => t.cp0 = c ∧ OnlyPc s { t with cp0 := s.cp0 }
    let put := fun (n : Reg) (c : Word → Cp0) =>
      Does (.mtc0 rt n) s (onlyCp0 (c (sext32 (lo32 v)))) ∧ Does (.dmtc0 rt n) s (onlyCp0 (c v))
    let loMask : Word := 0x3FFFFFFFF ||| 1 <<< s.params.entryLoEBit
    let stMask : BitVec 32 := 0xF450FF1F ||| 1 <<< s.params.nofdivBit ||| 1 <<< s.params.nofsqrBit
    let diag := fun (i : Instr) (x : Word) =>
      (x &&& diagRefused s.params = 0 → Does i s (fun s t => t.cp0 = { s.cp0 with diag := x &&& diagMask s.params }
        ∧ t.itlb = (if x.getLsbD s.params.diagItlb then [] else s.itlb)
        ∧ OnlyPc s { t with cp0 := s.cp0, itlb := s.itlb }))
      ∧ (x &&& diagRefused s.params ≠ 0 → exec i s = .refused .diagnosticSerialisation)
    (s.cp0Usable = true ∨ rd = 24 ∨ rd = 25 →
      Does (.mfc0 rt rd) s (OnlyGpr rt (sext32 (lo32 (s.cp0Read rd))))
      ∧ Does (.dmfc0 rt rd) s (OnlyGpr rt (s.cp0Read rd)))
    ∧ (s.cp0Usable = true →
      put 0 (fun x => { s.cp0 with index := lo32 x &&& 0x8000003F })
      ∧ put 2 (fun x => { s.cp0 with entryLo0 := x &&& loMask })
      ∧ put 3 (fun x => { s.cp0 with entryLo1 := x &&& loMask })
      ∧ put 4 (fun x => { s.cp0 with context := (s.cp0.context &&& 0x7FFFFF) ||| (x &&& ~~~0x7FFFFF) })
      ∧ put 5 (fun x => { s.cp0 with pageMask := lo32 x &&& 0x01FFE000 })
      ∧ put 6 (fun x => { s.cp0 with wired := x.extractLsb' 0 6, random := 63, randomFresh := true })
      ∧ put 10 (fun x => { s.cp0 with entryHi := x &&& 0xC00000FFFFFFE0FF })
      ∧ put 11 (fun x => { s.cp0 with compare := lo32 x, timer := false })
      ∧ put 12 (fun x => { s.cp0 with status := lo32 x &&& stMask })
      ∧ put 13 (fun x => { s.cp0 with cause := (s.cp0.cause &&& ~~~0x300) ||| (lo32 x &&& 0x300) })
      ∧ put 14 (fun x => { s.cp0 with epc := x })
      ∧ put 16 (fun x => { s.cp0 with config := (s.cp0.config &&& ~~~7) ||| (lo32 x &&& 7) })
      ∧ put 18 (fun x => { s.cp0 with watch := x &&& ~~~4 })
      ∧ put 20 (fun x => { s.cp0 with xcontext := (s.cp0.xcontext &&& 0x1FFFFFFFF) ||| (x &&& ~~~0x1FFFFFFFF) })
      ∧ put 24 (fun x => { s.cp0 with perfCtl := lo32 x &&& 0x1FFF })
      ∧ put 25 (fun x => { s.cp0 with perfCnt1 := hi32 x, perfCnt0 := lo32 x })
      ∧ put 28 (fun x => { s.cp0 with tagLo := lo32 x })
      ∧ put 29 (fun x => { s.cp0 with tagHi := lo32 x })
      ∧ put 30 (fun x => { s.cp0 with errorEpc := x })
      ∧ (lo32 v ≠ s.cp0.compare → put 9 (fun x => { s.cp0 with count := lo32 x }))
      ∧ diag (.mtc0 rt 22) (sext32 (lo32 v)) ∧ diag (.dmtc0 rt 22) v
      ∧ (∀ n ∈ ([1, 7, 8, 15, 17, 19, 21, 23, 26, 27, 31] : List Reg),
          Does (.mtc0 rt n) s OnlyPc ∧ Does (.dmtc0 rt n) s OnlyPc)
      ∧ (rd ≠ 22 → Does (.mtc0 rt rd) s (fun s t => OnlyPc s { t with cp0 := s.cp0 })
          ∧ Does (.dmtc0 rt rd) s (fun s t => OnlyPc s { t with cp0 := s.cp0 })))

/-- TLBP, TLBR, TLBWI and TLBWR complete: which entry, which registers, and nothing else. Where CP0 is
usable: TLBR loads PageMask, EntryHi and the two EntryLo from the entry Index names, G into both; TLBWI
and TLBWR write the entry Index or Random names from those registers, when the mask is one of Table 5-6
and no other entry would match an address under one ASID too, in every region; an illegal mask and a
second match stop (decisions D17 and D11, log 17, the model's choice); TLBP puts the number of the one
match into Index, or sets P on none. (46_cp0_privileged.md R669, 46_cp0_privileged.md R670,
46_cp0_privileged.md R671, 46_cp0_privileged.md R672, 11_cp0_registers.md R155) -/
def Obligations.TlbInstructions : Prop :=
  ∀ s : State, s.cp0Usable = true →
    let page := fun (lo : Word) => ({ pfn := lo.extractLsb' 6 28, c := lo.extractLsb' 3 3, d := lo.getLsbD 2
                                      v := lo.getLsbD 1, e := lo.getLsbD s.params.entryLoEBit } : TlbPage)
    let mask := s.cp0.pageMask.extractLsb' 13 12
    let entry : TlbEntry :=
      { mask := mask, r := s.cp0.entryHi.extractLsb' 62 2
        vpn2 := s.cp0.entryHi.extractLsb' 13 27 &&& ~~~((0 : BitVec 15) ++ mask)
        g := s.cp0.entryLo0.getLsbD 0 && s.cp0.entryLo1.getLsbD 0, asid := s.cp0.entryHi.extractLsb' 0 8
        even := page s.cp0.entryLo0, odd := page s.cp0.entryLo1 }
    let writes := fun (i : BitVec 6) (s t : State) =>
      t.tlb = s.tlb.set i.toNat entry i.isLt ∧ OnlyPc s { t with tlb := s.tlb }
    let legal := mask ∈ ([0, 0x3, 0xF, 0x3F, 0xFF, 0x3FF, 0xFFF] : List (BitVec 12))
    let meets := fun (x : TlbEntry) => x.r = entry.r ∧ (x.g = true ∨ entry.g = true ∨ x.asid = entry.asid)
      ∧ x.vpn2 &&& ~~~((0 : BitVec 15) ++ (x.mask ||| mask)) = entry.vpn2 &&& ~~~((0 : BitVec 15) ++ (x.mask ||| mask))
    let alone := fun (i : BitVec 6) => ∀ j : Fin 64, j.val ≠ i.toNat → ¬meets s.tlb[j]
    let idx := s.cp0.index.extractLsb' 0 6
    (legal → (alone idx → Does .tlbwi s (writes idx)) ∧ (alone s.cp0.random → Does .tlbwr s (writes s.cp0.random))
      ∧ (¬alone idx → exec .tlbwi s = .fault .tlbMultipleMatch)
      ∧ (¬alone s.cp0.random → exec .tlbwr s = .fault .tlbMultipleMatch))
    ∧ (¬legal → exec .tlbwi s = .fault .tlbIllegalMask ∧ exec .tlbwr s = .fault .tlbIllegalMask)
    ∧ Does .tlbr s (fun s t =>
        let e := s.tlb[idx.toNat]'idx.isLt
        t.cp0.pageMask.extractLsb' 13 12 = e.mask ∧ t.cp0.entryHi.extractLsb' 62 2 = e.r
        ∧ t.cp0.entryHi.extractLsb' 13 27 = e.vpn2 &&& ~~~((0 : BitVec 15) ++ e.mask)
        ∧ t.cp0.entryHi.extractLsb' 0 8 = e.asid
        ∧ page t.cp0.entryLo0 = e.even ∧ page t.cp0.entryLo1 = e.odd
        ∧ t.cp0.entryLo0.getLsbD 0 = e.g ∧ t.cp0.entryLo1.getLsbD 0 = e.g
        ∧ OnlyPc s { t with cp0 := { t.cp0 with
            pageMask := s.cp0.pageMask, entryHi := s.cp0.entryHi, entryLo0 := s.cp0.entryLo0
            entryLo1 := s.cp0.entryLo1 } })
    ∧ (∀ i, tlbHits s s.cp0.entryHi = [i] →
        Does .tlbp s (fun s t => t.cp0.index = BitVec.ofNat 32 i.val
          ∧ OnlyPc s { t with cp0 := { t.cp0 with index := s.cp0.index } }))
    ∧ (tlbHits s s.cp0.entryHi = [] →
        Does .tlbp s (fun s t => t.cp0.index.getLsbD 31 = true
          ∧ OnlyPc s { t with cp0 := { t.cp0 with index := s.cp0.index } }))

/-- CACHE Index Store Tag (D) and (S), Index Load Tag (S) and Index Invalidate (I) complete. Where CP0 is
usable and the address is translated with the cached attribute: Index Store Tag (D) and (S) write the
tag and state of the line selected from TagLo and TagHi and keep its data (and W); Index Load Tag (S)
puts tag and state there, every other bit of both registers 0; Index Invalidate (I) clears V in the four
ways of the set. Every other line and everything else stay, but for the record of the lines that are
initialised, which CacheTransfers states (log 5). The images of tag and state and what each operation
keeps are DEDUCED (log 20); that the address is translated as for a load, without Watch, is R681's
decision D18. (46_cp0_privileged.md R684, 46_cp0_privileged.md R685, 46_cp0_privileged.md R686,
46_cp0_privileged.md R687) -/
def Obligations.CacheIndexOperations : Prop :=
  ∀ (s : State) (base : Reg) (offset : Imm16) (pa : PAddr), s.cp0Usable = true →
    let va := s.reg base + BitVec.ofInt 64 offset.toInt
    translate s .load true va = .ok pa 3 →
    let set := (va.extractLsb' 5 9).toNat
    let way := (va.extractLsb' 0 2).toNat
    let sset := (pa.extractLsb' 5 12).toNat
    let sway := (pa.extractLsb' 0 2).toNat
    let lo := s.cp0.tagLo
    let hi := s.cp0.tagHi
    let d := dGet s.mem set way
    let l := sGet s.mem sset sway
    let onlyD := fun (x : DLine) (s t : State) => dGet t.mem set way = x
      ∧ (∀ q v, v < 4 → (q, v) ≠ (set, way) → dGet t.mem q v = dGet s.mem q v)
      ∧ OnlyPc s { t with mem := { t.mem with dcache := s.mem.dcache, coldD := s.mem.coldD } }
    let onlyS := fun (x : SLine) (s t : State) => sGet t.mem sset sway = x
      ∧ (∀ q v, v < 4 → (q, v) ≠ (sset, sway) → sGet t.mem q v = sGet s.mem q v)
      ∧ OnlyPc s { t with mem := { t.mem with scache := s.mem.scache, coldS := s.mem.coldS } }
    let onlyTag := fun (x y : BitVec 32) (s t : State) => t.cp0 = { s.cp0 with tagLo := x, tagHi := y }
      ∧ OnlyPc s { t with cp0 := s.cp0 }
    Does (.cache base 9 offset) s (onlyD { d with
        way := lo.extractLsb' 4 2, cs := lo.extractLsb' 6 2, tag := hi.extractLsb' 0 4 ++ lo.extractLsb' 8 24 })
    ∧ Does (.cache base 11 offset) s (onlyS { l with
        st := lo.extractLsb' 10 2, tag := hi.extractLsb' 0 4 ++ lo.extractLsb' 13 19 })
    ∧ Does (.cache base 7 offset) s (onlyTag (l.tag.extractLsb' 0 19 ++ (0 : BitVec 1) ++ l.st ++ (0 : BitVec 10))
        ((0 : BitVec 28) ++ l.tag.extractLsb' 19 4))
    ∧ Does (.cache base 0 offset) s (fun s t =>
        (∀ v, v < 4 → iGet t.mem set v = { iGet s.mem set v with v := false })
        ∧ (∀ q v, v < 4 → q ≠ set → iGet t.mem q v = iGet s.mem q v)
        ∧ OnlyPc s { t with mem := { t.mem with icache := s.mem.icache, coldI := s.mem.coldI } })

/-- CACHE Index Load Tag (D), Load Data, Store Data, and the WriteBack and Invalidate forms (D, S) complete.
Where CP0 is usable and the address cached: Index Load Tag (D) gives tag and state, W in TagHi[29],
TagHi[31:30] free; Load and Store Data move the doubleword selected (decision D18); Store Tag of the
state 00 and Index Invalidate (I) mark lines initialised, a Store Tag of another state none (log 5).
With the level-2 cache enabled, data cache: Hit Invalidate clears CS of the one way that holds the line;
the WriteBack forms also put a dirty line's bytes into the level-2 line its SCWay names, then Dirty;
without a hit nothing changes. Level-2 cache: an invalid line selected, or no hit, changes nothing; else
the line and its level-1 copies are invalidated; the WriteBack forms, the line being DDR2 in reach,
write to memory the bytes of the one dirty level-1 copy, or of the line if Dirty, and nothing if
neither; Hit Invalidate writes nothing. W is set in a data-cache line written back, else stays; every
other line and everything else stay. (Two ways with one tag and two dirty copies are left out: the
model's choice, log 19 and 20.) (46_cp0_privileged.md R683, 46_cp0_privileged.md R688,
46_cp0_privileged.md R689, 46_cp0_privileged.md R690, 46_cp0_privileged.md R691, 46_cp0_privileged.md
R692, 46_cp0_privileged.md R693, 46_cp0_privileged.md R694, 46_cp0_privileged.md R695, 10_state.md R130,
11_cp0_registers.md R226, 20_memory.md R299) -/
def Obligations.CacheTransfers : Prop :=
  (∀ (s : State) (base : Reg) (offset : Imm16) (pa : PAddr), s.cp0Usable = true →
    let va := s.reg base + BitVec.ofInt 64 offset.toInt
    translate s .load true va = .ok pa 3 →
    let set := (va.extractLsb' 5 9).toNat
    let way := (va.extractLsb' 0 2).toNat
    let sset := (pa.extractLsb' 5 12).toNat
    let sway := (pa.extractLsb' 0 2).toNat
    let lo := s.cp0.tagLo
    let hi := s.cp0.tagHi
    let d := dGet s.mem set way
    let l := sGet s.mem sset sway
    let dword := (va.extractLsb' 3 2).toNat
    let sword := (pa.extractLsb' 3 2).toNat
    let onlyD := fun (x : DLine) (s t : State) => dGet t.mem set way = x
      ∧ (∀ q v, v < 4 → (q, v) ≠ (set, way) → dGet t.mem q v = dGet s.mem q v)
      ∧ OnlyPc s { t with mem := { t.mem with dcache := s.mem.dcache, coldD := s.mem.coldD } }
    let onlyS := fun (x : SLine) (s t : State) => sGet t.mem sset sway = x
      ∧ (∀ q v, v < 4 → (q, v) ≠ (sset, sway) → sGet t.mem q v = sGet s.mem q v)
      ∧ OnlyPc s { t with mem := { t.mem with scache := s.mem.scache, coldS := s.mem.coldS } }
    let onlyTag := fun (x y : BitVec 32) (s t : State) => t.cp0 = { s.cp0 with tagLo := x, tagHi := y }
      ∧ OnlyPc s { t with cp0 := s.cp0 }
    let stored := fun (old new : BitVec 256) (k : Nat) => ∀ j, j < 4 →
      new.extractLsb' (64 * j) 64 = if j = k then hi ++ lo else old.extractLsb' (64 * j) 64
    Does (.cache base 5 offset) s (fun s t => ∃ z : BitVec 2,
        onlyTag (d.tag.extractLsb' 0 24 ++ d.cs ++ d.way ++ (0 : BitVec 4))
          (z ++ BitVec.ofBool d.w ++ (0 : BitVec 25) ++ d.tag.extractLsb' 24 4) s t)
    ∧ Does (.cache base 0x19 offset) s (onlyTag (d.data.extractLsb' (64 * dword) 32)
        (d.data.extractLsb' (64 * dword + 32) 32))
    ∧ Does (.cache base 0x1B offset) s (onlyTag (l.data.extractLsb' (64 * sword) 32)
        (l.data.extractLsb' (64 * sword + 32) 32))
    ∧ Does (.cache base 0x1D offset) s (fun s t => ∃ x, stored d.data x dword
        ∧ onlyD { d with data := x } s t ∧ t.mem.coldD = s.mem.coldD)
    ∧ Does (.cache base 0x1F offset) s (fun s t => ∃ x, stored l.data x sword
        ∧ onlyS { l with data := x } s t ∧ t.mem.coldS = s.mem.coldS)
    ∧ Does (.cache base 9 offset) s (fun s t => t.mem.coldD =
        if lo.extractLsb' 6 2 = 0 then rangesWithout (set * 4 + way) s.mem.coldD else s.mem.coldD)
    ∧ Does (.cache base 11 offset) s (fun s t => t.mem.coldS =
        if lo.extractLsb' 10 2 = 0 then rangesWithout (sset * 4 + sway) s.mem.coldS else s.mem.coldS)
    ∧ Does (.cache base 0 offset) s (fun s t =>
        t.mem.coldI = [0, 1, 2, 3].foldl (fun c v => rangesWithout (set * 4 + v) c) s.mem.coldI))
  ∧ ∀ (s : State) (base : Reg) (offset : Imm16) (pa : PAddr), s.cp0Usable = true →
    let va := s.reg base + BitVec.ofInt 64 offset.toInt
    translate s .load true va = .ok pa 3 → s.mem.chip.disableScache = false →
    let set := (va.extractLsb' 5 9).toNat
    let sset := (pa.extractLsb' 5 12).toNat
    let holdsD := fun w : Nat => (dGet s.mem set w).cs ≠ 0 ∧ (dGet s.mem set w).tag = pa.extractLsb' 12 28
    let holdsS := fun w : Nat => (sGet s.mem sset w).st ≠ 0 ∧ (sGet s.mem sset w).tag = pa.extractLsb' 17 23
    let emptied := fun (w : Nat) (b : Bool) (s t : State) =>
      dGet t.mem set w = { dGet s.mem set w with cs := 0, w := b }
      ∧ (∀ q v, v < 4 → (q, v) ≠ (set, w) → dGet t.mem q v = dGet s.mem q v)
    let dropped := fun (w : Nat) (s t : State) => emptied w (dGet s.mem set w).w s t
      ∧ OnlyPc s { t with mem := { t.mem with dcache := s.mem.dcache } }
    let backD := fun (i : Instr) (w : Nat) =>
      let d := dGet s.mem set w
      let q0 := (d.tag.extractLsb' 0 5 ++ (va.extractLsb' 5 7) : BitVec 12).toNat
      (d.cs ≠ 3 → Does i s (dropped w))
      ∧ (d.cs = 3 → Does i s (fun s t => emptied w true s t
        ∧ sGet t.mem q0 d.way.toNat = { sGet s.mem q0 d.way.toNat with st := 3, data := d.data }
        ∧ (∀ q v, v < 4 → (q, v) ≠ (q0, d.way.toNat) → sGet t.mem q v = sGet s.mem q v)
        ∧ OnlyPc s { t with mem := { t.mem with dcache := s.mem.dcache, scache := s.mem.scache } }))
    let outS := fun (i : Instr) (wb : Bool) (w : Nat) =>
      let l := sGet s.mem sset w
      let line : PAddr := l.tag ++ pa.extractLsb' 5 12 ++ (0 : BitVec 5)
      let place := fun q : Nat => q < 512 ∧ q % 128 = (pa.extractLsb' 5 7).toNat
      let copy := fun q v : Nat => (dGet s.mem q v).cs ≠ 0 ∧ (dGet s.mem q v).tag = line.extractLsb' 12 28
      let dirty := fun q v : Nat => place q ∧ v < 4 ∧ (dGet s.mem q v).cs = 3 ∧ (dGet s.mem q v).tag = line.extractLsb' 12 28
      let gone := fun (s t : State) =>
        (∀ q v, v < 4 → iGet t.mem q v = { iGet s.mem q v with
          v := (iGet s.mem q v).v && !decide (place q ∧ (iGet s.mem q v).tag = line.extractLsb' 12 28) })
        ∧ (∀ q v, v < 4 → place q → copy q v → dGet t.mem q v = { dGet s.mem q v with
          cs := 0, w := (dGet s.mem q v).w || (wb && (dGet s.mem q v).cs == 3) })
        ∧ (∀ q v, v < 4 → ¬(place q ∧ copy q v) → dGet t.mem q v = dGet s.mem q v)
        ∧ (sGet t.mem sset w).st = 0 ∧ (sGet t.mem sset w).tag = l.tag
        ∧ (∀ q v, v < 4 → (q, v) ≠ (sset, w) → sGet t.mem q v = sGet s.mem q v)
      let kept := fun (s t : State) => OnlyPc s { t with mem := { t.mem with
        icache := s.mem.icache, dcache := s.mem.dcache, scache := s.mem.scache } }
      let written := fun (x : BitVec 256) (a : Nat) (s t : State) => gone s t
        ∧ (∀ k, k < 32 → readByte t.mem.ddr (a + k) = x.extractLsb' (8 * k) 8)
        ∧ (∀ b, b < a ∨ a + 32 ≤ b → readByte t.mem.ddr b = readByte s.mem.ddr b)
        ∧ kept s { t with mem := { t.mem with ddr := s.mem.ddr } }
      (wb = false ∨ l.st ≠ 3 ∧ (∀ q v, ¬dirty q v) → Does i s (fun s t => gone s t ∧ kept s t))
      ∧ ∀ a : Nat, wb = true → route s.mem.chip line.toNat = .ok (.ddr a) → s.mem.chip.ddrReady = true →
        a + 32 ≤ s.params.ddrSize → Memory.wf s.mem.ddr = true →
        (l.st = 3 → (∀ q v, ¬dirty q v) → Does i s (written l.data a))
        ∧ ∀ q0 v0, dirty q0 v0 → (∀ q v, dirty q v → (q, v) = (q0, v0)) →
          Does i s (written (dGet s.mem q0 v0).data a)
    backD (.cache base 1 offset) (va.extractLsb' 0 2).toNat
    ∧ ((∀ w, w < 4 → ¬holdsD w) → ∀ n ∈ ([0x11, 0x15] : List Reg), Does (.cache base n offset) s OnlyPc)
    ∧ (∀ w, w < 4 → (∀ v, v < 4 → (holdsD v ↔ v = w)) →
      Does (.cache base 0x11 offset) s (dropped w) ∧ backD (.cache base 0x15 offset) w)
    ∧ ((sGet s.mem sset (pa.extractLsb' 0 2).toNat).st = 0 → Does (.cache base 3 offset) s OnlyPc)
    ∧ ((sGet s.mem sset (pa.extractLsb' 0 2).toNat).st ≠ 0 →
      outS (.cache base 3 offset) true (pa.extractLsb' 0 2).toNat)
    ∧ ((∀ w, w < 4 → ¬holdsS w) → ∀ n ∈ ([0x13, 0x17] : List Reg), Does (.cache base n offset) s OnlyPc)
    ∧ ∀ w, w < 4 → (∀ v, v < 4 → (holdsS v ↔ v = w)) →
      outS (.cache base 0x13 offset) false w ∧ outS (.cache base 0x17 offset) true w

/-- Privileged instructions where CP0 is unusable, and every floating one with CU1 = 0, take
CoprocessorUnusable. Outside kernel mode with CU0 = 0: MFC0 and DMFC0 of registers other than 24 and 25,
MTC0, DMTC0, the TLB instructions, ERET, and CACHE (but for the Hit forms of user mode with U-Mode = 1;
that the Index forms still trap there is R211's decision D15, log 20, the model's choice) take
CoprocessorUnusable of unit 0; with CU1 = 0 every floating load, store, move, operation, rounding,
conversion, compare, multiply-add and branch takes that of unit 1, in every mode. (30_encoding.md R389,
60_exceptions.md R871, 11_cp0_registers.md R150, 11_cp0_registers.md R211, 11_cp0_registers.md R224) -/
def Obligations.CoprocessorUnusable : Prop :=
  (∀ (s : State) (r q : Reg) (o : Imm16), s.cp0Usable = false →
    (∀ i ∈ ([
        .mtc0 r q, .dmtc0 r q, .tlbp, .tlbr, .tlbwi, .tlbwr, .eret] : List Instr), Takes i (.coprocessor 0) s)
    ∧ (q ≠ 24 → q ≠ 25 → Takes (.mfc0 r q) (.coprocessor 0) s ∧ Takes (.dmfc0 r q) (.coprocessor 0) s)
    ∧ (s.mode ≠ some .user ∨ s.cp0.diag.getLsbD s.params.diagUMode = false ∨ q ∉ ([0x11, 0x15, 0x13, 0x17] : List Reg) →
      Takes (.cache r q o) (.coprocessor 0) s))
    ∧ ∀ (s : State) (r q p : Reg) (o : Imm16), s.cu 1 = false → ∀ i ∈ ([
        .lwc1 r q o, .ldc1 r q o, .swc1 r q o, .sdc1 r q o, .addS r q p, .addD r q p, .addPs r q p,
        .subS r q p, .subD r q p, .subPs r q p, .mulS r q p, .mulD r q p, .mulPs r q p, .divS r q p,
        .divD r q p, .sqrtS r q, .sqrtD r q, .absS r q, .absD r q, .absPs r q, .movS r q, .movD r q,
        .movPs r q, .negS r q, .negD r q, .negPs r q, .roundLS r q, .roundLD r q, .truncLS r q,
        .truncLD r q, .ceilLS r q, .ceilLD r q, .floorLS r q, .floorLD r q, .roundWS r q, .roundWD r q,
        .truncWS r q, .truncWD r q, .ceilWS r q, .ceilWD r q, .floorWS r q, .floorWD r q, .cvtWS r q,
        .cvtWD r q, .cvtLS r q, .cvtLD r q, .cvtSD r q, .cvtSW r q, .cvtSL r q, .cvtDS r q, .cvtDW r q,
        .cvtDL r q, .cFS r q, .cFD r q, .cFPs r q, .cUnS r q, .cUnD r q, .cUnPs r q, .cEqS r q,
        .cEqD r q, .cEqPs r q, .cUeqS r q, .cUeqD r q, .cUeqPs r q, .cOltS r q, .cOltD r q,
        .cOltPs r q, .cUltS r q, .cUltD r q, .cUltPs r q, .cOleS r q, .cOleD r q, .cOlePs r q,
        .cUleS r q, .cUleD r q, .cUlePs r q, .cSfS r q, .cSfD r q, .cSfPs r q, .cNgleS r q,
        .cNgleD r q, .cNglePs r q, .cSeqS r q, .cSeqD r q, .cSeqPs r q, .cNglS r q, .cNglD r q,
        .cNglPs r q, .cLtS r q, .cLtD r q, .cLtPs r q, .cNgeS r q, .cNgeD r q, .cNgePs r q, .cLeS r q,
        .cLeD r q, .cLePs r q, .cNgtS r q, .cNgtD r q, .cNgtPs r q, .mfc1 r q, .dmfc1 r q, .cfc1 r q,
        .mtc1 r q, .dmtc1 r q, .ctc1 r q, .bc1f o, .bc1t o, .bc1fl o, .bc1tl o, .maddS r q p,
        .maddD r q p, .maddPs r q p, .msubS r q p, .msubD r q p, .msubPs r q p, .nmaddS r q p,
        .nmaddD r q p, .nmaddPs r q p, .nmsubS r q p, .nmsubD r q p, .nmsubPs r q p] : List Instr), Takes i (.coprocessor 1) s

/-- ADD, SUB, MUL, DIV, SQRT, ABS, NEG in S, D, PS: completion and trap, the values of ABS and NEG, and what
a PS result is made of. With CP1 usable (the 64-bit forms with even registers or FR = 1, DIV and SQRT
with their units enabled): when the operation's causes do not trap, it completes, fd takes the result,
Causes are rewritten and Flags gather; when they trap, Causes are written, nothing else, and the
floating-point exception is taken. For PS that the two halves trap jointly, both or neither written, is
R793's reading (D24, log 27), the model's choice. Everything else stays. Of an operand that is neither
subnormal nor a NaN, ABS clears and NEG inverts the sign bit and keeps every other bit, without a cause;
the causes of a PS result are those of both halves, its bits [63:32] are the upper half's result and
[31:0] the lower half's; every result fits its format. The values of the other five operations are in
FloatingExactResults and RoundingByMode. (47_fpu.md R703, 47_fpu.md R711, 47_fpu.md R715, 47_fpu.md
R721, 47_fpu.md R722, 47_fpu.md R723, 47_fpu.md R724, 47_fpu.md R725, 47_fpu.md R726, 47_fpu.md R728,
48_fpu_ext.md R793, 48_fpu_ext.md R795) -/
def Obligations.FloatingArithmetic : Prop :=
  (∀ (s : State) (ft fs fd : Reg), s.cu 1 = true →
    let c := fpCtl s.fcr31
    let a := (s.fprS fs).toNat
    let b := (s.fprS ft).toNat
    let u := s.fprAt fs
    let v := s.fprAt ft
    let x := u.toNat
    let y := v.toNat
    FpDoneS (.addS ft fs fd) s fd (fpAdd .single c a b)
    ∧ FpDoneS (.subS ft fs fd) s fd (fpSub .single c a b)
    ∧ FpDoneS (.mulS ft fs fd) s fd (fpMul .single c a b)
    ∧ (s.noDivide = false → FpDoneS (.divS ft fs fd) s fd (fpDiv .single c a b))
    ∧ (s.noSqrt = false → FpDoneS (.sqrtS fs fd) s fd (fpSqrt .single c a))
    ∧ FpDoneS (.absS fs fd) s fd (fpAbs .single a)
    ∧ FpDoneS (.negS fs fd) s fd (fpNegate .single a)
    ∧ (s.doubleOk fs = true → s.doubleOk ft = true → s.doubleOk fd = true →
      FpDoneD (.addD ft fs fd) s fd (fpAdd .double c x y)
      ∧ FpDoneD (.subD ft fs fd) s fd (fpSub .double c x y)
      ∧ FpDoneD (.mulD ft fs fd) s fd (fpMul .double c x y)
      ∧ (s.noDivide = false → FpDoneD (.divD ft fs fd) s fd (fpDiv .double c x y))
      ∧ FpDoneD (.addPs ft fs fd) s fd
        (psOut (fpAdd .single c (psHi u) (psHi v)) (fpAdd .single c (psLo u) (psLo v)))
      ∧ FpDoneD (.subPs ft fs fd) s fd
        (psOut (fpSub .single c (psHi u) (psHi v)) (fpSub .single c (psLo u) (psLo v)))
      ∧ FpDoneD (.mulPs ft fs fd) s fd
        (psOut (fpMul .single c (psHi u) (psHi v)) (fpMul .single c (psLo u) (psLo v))))
    ∧ (s.doubleOk fs = true → s.doubleOk fd = true →
      (s.noSqrt = false → FpDoneD (.sqrtD fs fd) s fd (fpSqrt .double c x))
      ∧ FpDoneD (.absD fs fd) s fd (fpAbs .double x)
      ∧ FpDoneD (.negD fs fd) s fd (fpNegate .double x)
      ∧ FpDoneD (.absPs fs fd) s fd (psOut (fpAbs .single (psHi u)) (fpAbs .single (psLo u)))
      ∧ FpDoneD (.negPs fs fd) s fd (psOut (fpNegate .single (psHi u)) (fpNegate .single (psLo u)))))
  ∧ (∀ (f : Fmt) (a k : Nat), a < 2 ^ (signBit f + 1) → fpSubnormal f a = false → fpNan f a = false →
    (fpAbs f a).causes = 0 ∧ (fpAbs f a).bits.testBit k = (a.testBit k && k != signBit f)
    ∧ (fpNegate f a).causes = 0 ∧ (fpNegate f a).bits.testBit k = (a.testBit k != (k == signBit f)))
  ∧ (∀ hi lo : FpOut, (psOut hi lo).causes = hi.causes ||| lo.causes
    ∧ (lo.bits < 2 ^ 32 → BitVec.ofNat 64 (psOut hi lo).bits = BitVec.ofNat 32 hi.bits ++ BitVec.ofNat 32 lo.bits))
  ∧ ∀ (f : Fmt) (c : FpCtl) (a b : Nat), a < 2 ^ (signBit f + 1) →
    ∀ o ∈ [fpAdd f c a b, fpSub f c a b, fpMul f c a b, fpDiv f c a b, fpSqrt f c a, fpAbs f a, fpNegate f a],
      o.bits < 2 ^ (signBit f + 1)

/-- The twelve multiply-adds: fd is also the addend; without a trap they complete, with one only Causes
change. As the other floating operations, with the result (fs * ft) + or - fd rounded once (decision
D33, log 27, the model's choice), negated in the N forms unless it is a NaN (D33, log 27): the sign bit
of the rounded result is inverted, every other bit and the causes are kept, and a NaN stays as it is;
every result fits its format. For PS that the two halves trap jointly, both or neither written, is
R793's reading (D24, log 27), the model's choice. (47_fpu.md R780, 47_fpu.md R781, 47_fpu.md R782,
47_fpu.md R783, 47_fpu.md R784, 48_fpu_ext.md R793, 48_fpu_ext.md R818, 47_fpu.md R703, 47_fpu.md R711) -/
def Obligations.FloatingMultiplyAdd : Prop :=
  (∀ (s : State) (ft fs fd : Reg), s.cu 1 = true →
    let c := fpCtl s.fcr31
    let a := (s.fprS fs).toNat
    let b := (s.fprS ft).toNat
    let e := (s.fprS fd).toNat
    let u := s.fprAt fs
    let v := s.fprAt ft
    let w := s.fprAt fd
    FpDoneS (.maddS ft fs fd) s fd (fpMadd .single c false a b e)
    ∧ FpDoneS (.msubS ft fs fd) s fd (fpMadd .single c true a b e)
    ∧ FpDoneS (.nmaddS ft fs fd) s fd (fpNegResult .single (fpMadd .single c false a b e))
    ∧ FpDoneS (.nmsubS ft fs fd) s fd (fpNegResult .single (fpMadd .single c true a b e))
    ∧ (s.doubleOk fs = true → s.doubleOk ft = true → s.doubleOk fd = true →
      FpDoneD (.maddD ft fs fd) s fd (fpMadd .double c false u.toNat v.toNat w.toNat)
      ∧ FpDoneD (.maddPs ft fs fd) s fd
        (psOut (fpMadd .single c false (psHi u) (psHi v) (psHi w)) (fpMadd .single c false (psLo u) (psLo v) (psLo w)))
      ∧ FpDoneD (.msubD ft fs fd) s fd (fpMadd .double c true u.toNat v.toNat w.toNat)
      ∧ FpDoneD (.msubPs ft fs fd) s fd
        (psOut (fpMadd .single c true (psHi u) (psHi v) (psHi w)) (fpMadd .single c true (psLo u) (psLo v) (psLo w)))
      ∧ FpDoneD (.nmaddD ft fs fd) s fd (fpNegResult .double (fpMadd .double c false u.toNat v.toNat w.toNat))
      ∧ FpDoneD (.nmaddPs ft fs fd) s fd
        (psOut (fpNegResult .single (fpMadd .single c false (psHi u) (psHi v) (psHi w))) (fpNegResult .single (fpMadd .single c false (psLo u) (psLo v) (psLo w))))
      ∧ FpDoneD (.nmsubD ft fs fd) s fd (fpNegResult .double (fpMadd .double c true u.toNat v.toNat w.toNat))
      ∧ FpDoneD (.nmsubPs ft fs fd) s fd
        (psOut (fpNegResult .single (fpMadd .single c true (psHi u) (psHi v) (psHi w))) (fpNegResult .single (fpMadd .single c true (psLo u) (psLo v) (psLo w))))))
  ∧ (∀ (f : Fmt) (o : FpOut) (k : Nat), (fpNegResult f o).causes = o.causes
    ∧ (fpNan f o.bits = true → (fpNegResult f o).bits = o.bits)
    ∧ (fpNan f o.bits = false → (fpNegResult f o).bits.testBit k = (o.bits.testBit k != (k == signBit f))))
  ∧ ∀ (f : Fmt) (c : FpCtl) (sub : Bool) (a b d : Nat),
    (fpMadd f c sub a b d).bits < 2 ^ (signBit f + 1)
    ∧ (fpNegResult f (fpMadd f c sub a b d)).bits < 2 ^ (signBit f + 1)

/-- The twenty-six conversions: widths, rounding mode, completion and trap, and the integer a conversion
gives. ROUND, TRUNC, CEIL and FLOOR round to nearest, toward zero, up and down whatever RM says, CVT by
RM; W results and operands are 32 bits, L ones 64; without a trap they complete, with one only Causes
change and the exception is taken. To an integer: a finite operand that is not subnormal gives its value
rounded in the mode, with I when that is inexact, when the integer fits; else, and for an infinity and
every NaN, V arises and the result is the most negative integer for a set sign bit and the most positive
for a clear one (the latter decision D24, log 27); a subnormal operand gives E. The value a conversion
to a floating format gives is stated in FloatingExactResults and RoundingByMode; an infinity stays one,
a signaling NaN gives V, a quiet NaN or a subnormal E. (47_fpu.md R714, 47_fpu.md R729, 47_fpu.md R730,
47_fpu.md R731, 47_fpu.md R732, 47_fpu.md R733, 47_fpu.md R740, 47_fpu.md R741, 47_fpu.md R742,
47_fpu.md R743, 47_fpu.md R703, 47_fpu.md R711) -/
def Obligations.FloatingConversions : Prop :=
  (∀ (s : State) (fs fd : Reg), s.cu 1 = true →
    let c := fpCtl s.fcr31
    let a := (s.fprS fs).toNat
    let x := (s.fprAt fs).toNat
    FpDoneS (.roundWS fs fd) s fd (fpToInt .single 32 .nearest a)
    ∧ (s.doubleOk fs = true → FpDoneS (.roundWD fs fd) s fd (fpToInt .double 32 .nearest x))
    ∧ (s.doubleOk fd = true → FpDoneD (.roundLS fs fd) s fd (fpToInt .single 64 .nearest a))
    ∧ (s.doubleOk fs = true → s.doubleOk fd = true → FpDoneD (.roundLD fs fd) s fd (fpToInt .double 64 .nearest x))
    ∧ FpDoneS (.truncWS fs fd) s fd (fpToInt .single 32 .zero a)
    ∧ (s.doubleOk fs = true → FpDoneS (.truncWD fs fd) s fd (fpToInt .double 32 .zero x))
    ∧ (s.doubleOk fd = true → FpDoneD (.truncLS fs fd) s fd (fpToInt .single 64 .zero a))
    ∧ (s.doubleOk fs = true → s.doubleOk fd = true → FpDoneD (.truncLD fs fd) s fd (fpToInt .double 64 .zero x))
    ∧ FpDoneS (.ceilWS fs fd) s fd (fpToInt .single 32 .up a)
    ∧ (s.doubleOk fs = true → FpDoneS (.ceilWD fs fd) s fd (fpToInt .double 32 .up x))
    ∧ (s.doubleOk fd = true → FpDoneD (.ceilLS fs fd) s fd (fpToInt .single 64 .up a))
    ∧ (s.doubleOk fs = true → s.doubleOk fd = true → FpDoneD (.ceilLD fs fd) s fd (fpToInt .double 64 .up x))
    ∧ FpDoneS (.floorWS fs fd) s fd (fpToInt .single 32 .down a)
    ∧ (s.doubleOk fs = true → FpDoneS (.floorWD fs fd) s fd (fpToInt .double 32 .down x))
    ∧ (s.doubleOk fd = true → FpDoneD (.floorLS fs fd) s fd (fpToInt .single 64 .down a))
    ∧ (s.doubleOk fs = true → s.doubleOk fd = true → FpDoneD (.floorLD fs fd) s fd (fpToInt .double 64 .down x))
    ∧ FpDoneS (.cvtWS fs fd) s fd (fpToInt .single 32 c.rm a)
    ∧ (s.doubleOk fs = true → FpDoneS (.cvtWD fs fd) s fd (fpToInt .double 32 c.rm x))
    ∧ (s.doubleOk fd = true → FpDoneD (.cvtLS fs fd) s fd (fpToInt .single 64 c.rm a))
    ∧ (s.doubleOk fs = true → s.doubleOk fd = true → FpDoneD (.cvtLD fs fd) s fd (fpToInt .double 64 c.rm x))
    ∧ (s.doubleOk fs = true → FpDoneS (.cvtSD fs fd) s fd (fpToFp .double .single c x))
    ∧ FpDoneS (.cvtSW fs fd) s fd (intToFp .single c (s.fprS fs).toInt)
    ∧ (s.doubleOk fs = true → FpDoneS (.cvtSL fs fd) s fd (intToFp .single c (s.fprAt fs).toInt))
    ∧ (s.doubleOk fd = true → FpDoneD (.cvtDS fs fd) s fd (fpToFp .single .double c a))
    ∧ (s.doubleOk fd = true → FpDoneD (.cvtDW fs fd) s fd (intToFp .double c (s.fprS fs).toInt))
    ∧ (s.doubleOk fs = true → s.doubleOk fd = true →
      FpDoneD (.cvtDL fs fd) s fd (intToFp .double c (s.fprAt fs).toInt)))
  ∧ (∀ (f : Fmt) (w : Nat) (rm : Rm) (a : Nat), w = 32 ∨ w = 64 →
    let o := fpToInt f w rm a
    let outside := o.causes = causeV ∧ o.bits = if fpNeg f a then 2 ^ (w - 1) else 2 ^ (w - 1) - 1
    (fpSubnormal f a = true → o.causes = causeE)
    ∧ (¬(fpVal f a).finite → outside)
    ∧ (fpSubnormal f a = false → (fpVal f a).finite → ∃ n : Int, RoundsToInt rm (fpVal f a).rat n
      ∧ (Fits w n → (BitVec.ofNat w o.bits).toInt = n
          ∧ o.causes = if (n : ℚ) = (fpVal f a).rat then 0 else causeI)
      ∧ (¬Fits w n → outside)))
  ∧ ∀ (f g : Fmt) (c : FpCtl) (a : Nat) (neg : Bool),
    (fpVal f a = .inf neg → (fpToFp f g c a).causes = 0 ∧ fpVal g (fpToFp f g c a).bits = .inf neg)
    ∧ (fpSignaling f a = true → (fpToFp f g c a).causes = causeV)
    ∧ (fpQuiet f a = true ∨ fpSubnormal f a = true → (fpToFp f g c a).causes = causeE)

/-- The forty-eight compares: each condition's number, CC0 (and CC1 for PS), completion and trap. Compare k
of the sixteen uses the condition bits of k; without a trap CC0 takes the predicate (for PS CC0 the
lower half's, CC1 the upper half's), Causes are rewritten and Flags gather; with V enabled only Causes
change and the exception is taken; no register and no byte of memory changes. (47_fpu.md R745, 47_fpu.md
R746, 47_fpu.md R747, 47_fpu.md R748, 47_fpu.md R753, 47_fpu.md R754, 47_fpu.md R761, 48_fpu_ext.md
R801, 48_fpu_ext.md R802, 48_fpu_ext.md R817) -/
def Obligations.FloatingCompares : Prop :=
  ∀ (s : State) (ft fs : Reg), s.cu 1 = true →
    (FpDoneC (.cFS ft fs) s (cmpS s 0 fs ft)
      ∧ FpDoneC (.cUnS ft fs) s (cmpS s 1 fs ft)
      ∧ FpDoneC (.cEqS ft fs) s (cmpS s 2 fs ft)
      ∧ FpDoneC (.cUeqS ft fs) s (cmpS s 3 fs ft)
      ∧ FpDoneC (.cOltS ft fs) s (cmpS s 4 fs ft)
      ∧ FpDoneC (.cUltS ft fs) s (cmpS s 5 fs ft)
      ∧ FpDoneC (.cOleS ft fs) s (cmpS s 6 fs ft)
      ∧ FpDoneC (.cUleS ft fs) s (cmpS s 7 fs ft)
      ∧ FpDoneC (.cSfS ft fs) s (cmpS s 8 fs ft)
      ∧ FpDoneC (.cNgleS ft fs) s (cmpS s 9 fs ft)
      ∧ FpDoneC (.cSeqS ft fs) s (cmpS s 10 fs ft)
      ∧ FpDoneC (.cNglS ft fs) s (cmpS s 11 fs ft)
      ∧ FpDoneC (.cLtS ft fs) s (cmpS s 12 fs ft)
      ∧ FpDoneC (.cNgeS ft fs) s (cmpS s 13 fs ft)
      ∧ FpDoneC (.cLeS ft fs) s (cmpS s 14 fs ft)
      ∧ FpDoneC (.cNgtS ft fs) s (cmpS s 15 fs ft))
    ∧ (s.doubleOk fs = true → s.doubleOk ft = true →
      FpDoneC (.cFD ft fs) s (cmpD s 0 fs ft)
      ∧ FpDoneCPs (.cFPs ft fs) s (cmpLo s 0 fs ft) (cmpHi s 0 fs ft)
      ∧ FpDoneC (.cUnD ft fs) s (cmpD s 1 fs ft)
      ∧ FpDoneCPs (.cUnPs ft fs) s (cmpLo s 1 fs ft) (cmpHi s 1 fs ft)
      ∧ FpDoneC (.cEqD ft fs) s (cmpD s 2 fs ft)
      ∧ FpDoneCPs (.cEqPs ft fs) s (cmpLo s 2 fs ft) (cmpHi s 2 fs ft)
      ∧ FpDoneC (.cUeqD ft fs) s (cmpD s 3 fs ft)
      ∧ FpDoneCPs (.cUeqPs ft fs) s (cmpLo s 3 fs ft) (cmpHi s 3 fs ft)
      ∧ FpDoneC (.cOltD ft fs) s (cmpD s 4 fs ft)
      ∧ FpDoneCPs (.cOltPs ft fs) s (cmpLo s 4 fs ft) (cmpHi s 4 fs ft)
      ∧ FpDoneC (.cUltD ft fs) s (cmpD s 5 fs ft)
      ∧ FpDoneCPs (.cUltPs ft fs) s (cmpLo s 5 fs ft) (cmpHi s 5 fs ft)
      ∧ FpDoneC (.cOleD ft fs) s (cmpD s 6 fs ft)
      ∧ FpDoneCPs (.cOlePs ft fs) s (cmpLo s 6 fs ft) (cmpHi s 6 fs ft)
      ∧ FpDoneC (.cUleD ft fs) s (cmpD s 7 fs ft)
      ∧ FpDoneCPs (.cUlePs ft fs) s (cmpLo s 7 fs ft) (cmpHi s 7 fs ft)
      ∧ FpDoneC (.cSfD ft fs) s (cmpD s 8 fs ft)
      ∧ FpDoneCPs (.cSfPs ft fs) s (cmpLo s 8 fs ft) (cmpHi s 8 fs ft)
      ∧ FpDoneC (.cNgleD ft fs) s (cmpD s 9 fs ft)
      ∧ FpDoneCPs (.cNglePs ft fs) s (cmpLo s 9 fs ft) (cmpHi s 9 fs ft)
      ∧ FpDoneC (.cSeqD ft fs) s (cmpD s 10 fs ft)
      ∧ FpDoneCPs (.cSeqPs ft fs) s (cmpLo s 10 fs ft) (cmpHi s 10 fs ft)
      ∧ FpDoneC (.cNglD ft fs) s (cmpD s 11 fs ft)
      ∧ FpDoneCPs (.cNglPs ft fs) s (cmpLo s 11 fs ft) (cmpHi s 11 fs ft)
      ∧ FpDoneC (.cLtD ft fs) s (cmpD s 12 fs ft)
      ∧ FpDoneCPs (.cLtPs ft fs) s (cmpLo s 12 fs ft) (cmpHi s 12 fs ft)
      ∧ FpDoneC (.cNgeD ft fs) s (cmpD s 13 fs ft)
      ∧ FpDoneCPs (.cNgePs ft fs) s (cmpLo s 13 fs ft) (cmpHi s 13 fs ft)
      ∧ FpDoneC (.cLeD ft fs) s (cmpD s 14 fs ft)
      ∧ FpDoneCPs (.cLePs ft fs) s (cmpLo s 14 fs ft) (cmpHi s 14 fs ft)
      ∧ FpDoneC (.cNgtD ft fs) s (cmpD s 15 fs ft)
      ∧ FpDoneCPs (.cNgtPs ft fs) s (cmpLo s 15 fs ft) (cmpHi s 15 fs ft))

/-- What a compare answers for finite operands, and for a NaN. For two finite patterns the predicate is
cond[2] with less, or cond[1] with equal, of the exact values, and V does not arise; when one is a NaN
it is cond[0], and V arises for a signaling NaN or with cond[3]. (47_fpu.md R745, 47_fpu.md R716) -/
def Obligations.ComparePredicate : Prop :=
  ∀ (f : Fmt) (cond : BitVec 4) (a b : Nat),
    ((fpVal f a).finite → (fpVal f b).finite →
      (fpCompare f cond a b).1 = false
      ∧ ((fpCompare f cond a b).2 = true ↔
        cond.getLsbD 2 = true ∧ (fpVal f a).rat < (fpVal f b).rat
          ∨ cond.getLsbD 1 = true ∧ (fpVal f a).rat = (fpVal f b).rat))
    ∧ (fpNan f a = true ∨ fpNan f b = true →
      (fpCompare f cond a b).2 = cond.getLsbD 0
      ∧ ((fpCompare f cond a b).1 = true ↔
        fpSignaling f a = true ∨ fpSignaling f b = true ∨ cond.getLsbD 3 = true))

/-- Floating results without rounding: exact values, and the default results for special operands, invalid
operations and division by zero. For finite operands in either format, under every rounding mode, when
ADD, SUB, MUL or DIV ends without any cause its result is finite and its value is the exact rational
sum, difference, product or quotient, the divisor not being 0; when SQRT does, its value squared is the
operand's; when a multiply-add does (one rounding: decision D33, log 27), its value is the product plus
or minus the addend; when a conversion to a floating format does, its value is the operand's. A
subnormal or quiet NaN operand gives E, before V (decision D25); else a signaling NaN, opposite
infinities added, 0 times infinity, 0/0, infinity/infinity and the root of a number below 0 give V and
the default NaN (its pattern: decision D24); a non-zero number divided by 0 gives Z and an infinity.
Infinities go through with their signs; a zero sum has the common sign, else + but - when rounding down;
products and quotients have the XOR of the signs; the root of a zero keeps its sign (IEEE points R716
takes from general knowledge). All of these hold of the multiply-adds too. Log 27. (47_fpu.md R704,
47_fpu.md R705, 47_fpu.md R706, 47_fpu.md R716, 47_fpu.md R710, 47_fpu.md R721, 47_fpu.md R722,
47_fpu.md R723, 47_fpu.md R724, 47_fpu.md R725, 47_fpu.md R740, 47_fpu.md R780) -/
def Obligations.FloatingExactResults : Prop :=
  (∀ (f : Fmt) (c : FpCtl) (a b d : Nat), (fpVal f a).finite → (fpVal f b).finite → (fpVal f d).finite →
    let val := fun o : FpOut => (fpVal f o.bits).rat
    let fin := fun o : FpOut => (fpVal f o.bits).finite
    let x := (fpVal f a).rat
    let y := (fpVal f b).rat
    let z := (fpVal f d).rat
    ((fpAdd f c a b).causes = 0 → fin (fpAdd f c a b) ∧ val (fpAdd f c a b) = x + y)
    ∧ ((fpSub f c a b).causes = 0 → fin (fpSub f c a b) ∧ val (fpSub f c a b) = x - y)
    ∧ ((fpMul f c a b).causes = 0 → fin (fpMul f c a b) ∧ val (fpMul f c a b) = x * y)
    ∧ ((fpDiv f c a b).causes = 0 → y ≠ 0 ∧ fin (fpDiv f c a b) ∧ val (fpDiv f c a b) = x / y)
    ∧ ((fpSqrt f c a).causes = 0 → fin (fpSqrt f c a) ∧ val (fpSqrt f c a) * val (fpSqrt f c a) = x)
    ∧ ((fpMadd f c false a b d).causes = 0 →
      fin (fpMadd f c false a b d) ∧ val (fpMadd f c false a b d) = x * y + z)
    ∧ ((fpMadd f c true a b d).causes = 0 →
      fin (fpMadd f c true a b d) ∧ val (fpMadd f c true a b d) = x * y - z))
  ∧ (∀ (f g : Fmt) (c : FpCtl) (a : Nat), (fpVal f a).finite → (fpToFp f g c a).causes = 0 →
    (fpVal g (fpToFp f g c a).bits).finite ∧ (fpVal g (fpToFp f g c a).bits).rat = (fpVal f a).rat)
  ∧ (∀ (f : Fmt) (c : FpCtl) (i : Int), (intToFp f c i).causes = 0 →
    (fpVal f (intToFp f c i).bits).finite ∧ (fpVal f (intToFp f c i).bits).rat = i)
  ∧ ∀ (f : Fmt) (c : FpCtl) (a b d : Nat),
    let zero := fun n : Bool => FpVal.fin n 0 (1 - (expBias f : Int) - fracBits f)
    let is := fun (o : FpOut) (v : FpVal) => o.causes = 0 ∧ fpVal f o.bits = v
    let invalid := fun o : FpOut => o.causes = causeV
      ∧ o.bits = (match f with | .single => 0x7FBFFFFF | .double => 0x7FF7FFFFFFFFFFFF)
    let absent := fun v : Nat => fpSubnormal f v = true ∨ fpQuiet f v = true
    let bad := fun v : Nat => fpSignaling f v = true
    let one := [fpSqrt f c a, fpAbs f a, fpNegate f a]
    let two := [fpAdd f c a b, fpSub f c a b, fpMul f c a b, fpDiv f c a b]
    let three := [fpMadd f c false a b d, fpMadd f c true a b d]
    let x := fpVal f a
    let y := fpVal f b
    let z := fpVal f d
    let m := fpNeg f a
    let n := fpNeg f b
    let w := fpNeg f d
    let k := m != n
    let sumSign := fun u v : Bool => if u = v then u else c.rm == .down
    (absent a → ∀ o ∈ one ++ two ++ three, o.causes = causeE)
    ∧ (absent b → ∀ o ∈ two ++ three, o.causes = causeE)
    ∧ (absent d → ∀ o ∈ three, o.causes = causeE)
    ∧ (bad a → ∀ o ∈ one, invalid o)
    ∧ (¬absent a →
      (x = .inf m → if m then invalid (fpSqrt f c a) else is (fpSqrt f c a) (.inf false))
      ∧ (x.finite → x.rat = 0 → is (fpSqrt f c a) (zero m)) ∧ (x.finite → x.rat < 0 → invalid (fpSqrt f c a)))
    ∧ (¬absent a → ¬absent b →
      (bad a ∨ bad b → ∀ o ∈ two, invalid o)
      ∧ (∀ p ∈ [(fpAdd f c a b, n), (fpSub f c a b, !n)],
        (x = .inf m → y.finite → is p.1 (.inf m)) ∧ (x.finite → y = .inf n → is p.1 (.inf p.2))
        ∧ (x = .inf m → y = .inf n → if m = p.2 then is p.1 (.inf m) else invalid p.1))
      ∧ (x.finite → y.finite → x.rat + y.rat = 0 → is (fpAdd f c a b) (zero (sumSign m n)))
      ∧ (x.finite → y.finite → x.rat - y.rat = 0 → is (fpSub f c a b) (zero (sumSign m !n)))
      ∧ (x.finite → y.finite → x.rat * y.rat = 0 → is (fpMul f c a b) (zero k))
      ∧ (x = .inf m → y = .inf n → is (fpMul f c a b) (.inf k) ∧ invalid (fpDiv f c a b))
      ∧ (x = .inf m → y.finite → (if y.rat = 0 then invalid (fpMul f c a b) else is (fpMul f c a b) (.inf k))
        ∧ is (fpDiv f c a b) (.inf k))
      ∧ (x.finite → y = .inf n → (if x.rat = 0 then invalid (fpMul f c a b) else is (fpMul f c a b) (.inf k))
        ∧ is (fpDiv f c a b) (zero k))
      ∧ (x.finite → y.finite → x.rat = 0 →
        if y.rat = 0 then invalid (fpDiv f c a b) else is (fpDiv f c a b) (zero k))
      ∧ (x.finite → y.finite → x.rat ≠ 0 → y.rat = 0 →
        (fpDiv f c a b).causes = causeZ ∧ fpVal f (fpDiv f c a b).bits = .inf k))
    ∧ (¬absent a → ¬absent b → ¬absent d →
      let endless := x = .inf m ∧ (y = .inf n ∨ y.finite ∧ y.rat ≠ 0) ∨ y = .inf n ∧ x.finite ∧ x.rat ≠ 0
      (bad a ∨ bad b ∨ bad d ∨ x = .inf m ∧ y.finite ∧ y.rat = 0 ∨ y = .inf n ∧ x.finite ∧ x.rat = 0 →
        ∀ o ∈ three, invalid o)
      ∧ (∀ p ∈ [(fpMadd f c false a b d, w), (fpMadd f c true a b d, !w)],
        (endless → z.finite → is p.1 (.inf k)) ∧ (x.finite → y.finite → z = .inf w → is p.1 (.inf p.2))
        ∧ (endless → z = .inf w → if k = p.2 then is p.1 (.inf k) else invalid p.1))
      ∧ (x.finite → y.finite → z.finite →
        (x.rat * y.rat + z.rat = 0 → is (fpMadd f c false a b d) (zero (sumSign k w)))
        ∧ (x.rat * y.rat - z.rat = 0 → is (fpMadd f c true a b d) (zero (sumSign k !w)))))

/-- One rounding of the exact value, by the mode, and the results out of range: sums, products, quotients,
roots, multiply-adds, conversions. A non-zero exact value that neither overflows nor underflows is
rounded once: to nearest, within half a unit and even at exactly half; toward zero (and up of a
negative, down of a positive), at most it and less than one unit below; up of a positive and down of a
negative, at least it and less than one unit above; Inexact exactly when the result differs. Said of m *
2^e itself and of the non-zero exact sum, difference, product and quotient, of the root of a positive
number (by its square), the product plus or minus the addend (one rounding: decision D33, log 27), and
the operand of a conversion to a floating format, all operands finite. Of operands that are not
subnormal: a value that after rounding exceeds the largest finite number gives O and I and, by mode and
sign, an infinity or that number; one that is not 0 and after rounding below the smallest normal number
gives E when U or I is enabled or FS is 0 (R708's reading, which 90_conflicts.md C29 chooses), else U
and I and, by mode and sign, a zero or, as decision D25 (R709, log 27) reads it, the smallest normal
number; every other gives no cause but I. A root is always in range. (47_fpu.md R707, 47_fpu.md R708,
47_fpu.md R709, 47_fpu.md R710, 47_fpu.md R713, 47_fpu.md R721, 47_fpu.md R722, 47_fpu.md R723,
47_fpu.md R724, 47_fpu.md R725, 47_fpu.md R740, 47_fpu.md R780) -/
def Obligations.RoundingByMode : Prop :=
  (∀ (f : Fmt) (c : FpCtl) (neg : Bool) (m : Nat) (e : Int), m ≠ 0 →
    OnlyInexact (roundPack f c neg m e false) →
    RoundsTo f c.rm neg ((m : ℚ) * (2 : ℚ) ^ e) (roundPack f c neg m e false))
  ∧ (∀ (f : Fmt) (c : FpCtl) (a b d : Nat), (fpVal f a).finite → (fpVal f b).finite → (fpVal f d).finite →
    let x := (fpVal f a).rat
    let y := (fpVal f b).rat
    let z := (fpVal f d).rat
    let once := fun (v : ℚ) (o : FpOut) => v ≠ 0 → OnlyInexact o → RoundsTo f c.rm (decide (v < 0)) |v| o
    once (x + y) (fpAdd f c a b) ∧ once (x - y) (fpSub f c a b) ∧ once (x * y) (fpMul f c a b)
    ∧ (y ≠ 0 → once (x / y) (fpDiv f c a b))
    ∧ (0 < x → OnlyInexact (fpSqrt f c a) → RootRoundsTo f c.rm x (fpSqrt f c a))
    ∧ once (x * y + z) (fpMadd f c false a b d) ∧ once (x * y - z) (fpMadd f c true a b d))
  ∧ (∀ (f g : Fmt) (c : FpCtl) (a : Nat), (fpVal f a).finite → (fpVal f a).rat ≠ 0 →
    OnlyInexact (fpToFp f g c a) →
    RoundsTo g c.rm (decide ((fpVal f a).rat < 0)) |(fpVal f a).rat| (fpToFp f g c a))
  ∧ (∀ (f : Fmt) (c : FpCtl) (i : Int), i ≠ 0 → OnlyInexact (intToFp f c i) →
    RoundsTo f c.rm (decide (i < 0)) |(i : ℚ)| (intToFp f c i))
  ∧ (∀ (f : Fmt) (c : FpCtl) (a b d : Nat), (fpVal f a).finite → (fpVal f b).finite → (fpVal f d).finite →
    fpSubnormal f a = false → fpSubnormal f b = false →
    let x := (fpVal f a).rat
    let y := (fpVal f b).rat
    let z := (fpVal f d).rat
    let ranged := fun (v : ℚ) (o : FpOut) => v ≠ 0 → RangeResult f c (decide (v < 0)) |v| o
    ranged (x + y) (fpAdd f c a b) ∧ ranged (x - y) (fpSub f c a b) ∧ ranged (x * y) (fpMul f c a b)
    ∧ (y ≠ 0 → ranged (x / y) (fpDiv f c a b)) ∧ (0 < x → OnlyInexact (fpSqrt f c a))
    ∧ (fpSubnormal f d = false →
      ranged (x * y + z) (fpMadd f c false a b d) ∧ ranged (x * y - z) (fpMadd f c true a b d)))
  ∧ (∀ (f g : Fmt) (c : FpCtl) (a : Nat), (fpVal f a).finite → fpSubnormal f a = false → (fpVal f a).rat ≠ 0 →
    RangeResult g c (decide ((fpVal f a).rat < 0)) |(fpVal f a).rat| (fpToFp f g c a))
  ∧ ∀ (f : Fmt) (c : FpCtl) (i : Int), i ≠ 0 → RangeResult f c (decide (i < 0)) |(i : ℚ)| (intToFp f c i)

/-- MOV, MFC1, DMFC1, MTC1, DMTC1, CFC1, CTC1 and BC1x complete with CP1 usable. That CTC1 of FCR0 does
nothing is the spec's own choice (R118, R770, 92_eei_decisions.md D29; log 29, DEDUCED), and that CFC1
and CTC1 of a number other than 0 and 31, which the manual does not define, stop is the model's fault
for U21 (R117, R769, R770; the stop fcrUndefined of NOTES.md). The moves copy bits and touch no cause;
CFC1 reads FCR0 = 0x501 or FCR31; CTC1 of FCR31 writes its existing bits and takes the exception, the
write done, when a cause then stands enabled (E always does), and of FCR0 does nothing; CFC1 and CTC1 of
another number stop; BC1x branch on CC0 outside a delay slot. (47_fpu.md R727, 47_fpu.md R765, 47_fpu.md
R766, 47_fpu.md R767, 47_fpu.md R768, 47_fpu.md R769, 47_fpu.md R770, 47_fpu.md R773, 47_fpu.md R774,
47_fpu.md R775, 48_fpu_ext.md R800, 10_state.md R117) -/
def Obligations.FloatingMovesAndBranches : Prop :=
  ∀ (s : State) (rt fs fd : Reg) (imm : Imm16), s.cu 1 = true →
    let target := s.pc + 4 + BitVec.ofInt 64 (4 * imm.toInt)
    let f := lo32 (s.reg rt) &&& 0x0383FFFF
    let trap := f.getLsbD 17 || (f.extractLsb' 12 5 &&& f.extractLsb' 7 5) != 0
    Does (.movS fs fd) s (OnlyFprS fd (s.fprS fs) s.fcr31)
    ∧ Does (.mfc1 rt fs) s (OnlyGpr rt (sext32 (s.fprS fs)))
    ∧ Does (.mtc1 rt fs) s (OnlyFprS fs (lo32 (s.reg rt)) s.fcr31)
    ∧ (s.doubleOk fs = true → s.doubleOk fd = true →
      Does (.movD fs fd) s (OnlyFprD fd (s.fprAt fs) s.fcr31)
      ∧ Does (.movPs fs fd) s (OnlyFprD fd (s.fprAt fs) s.fcr31))
    ∧ (s.doubleOk fs = true → Does (.dmfc1 rt fs) s (OnlyGpr rt (s.fprAt fs))
      ∧ Does (.dmtc1 rt fs) s (OnlyFprD fs (s.reg rt) s.fcr31))
    ∧ Does (.cfc1 rt 0) s (OnlyGpr rt 0x501)
    ∧ Does (.cfc1 rt 31) s (OnlyGpr rt ((0 : BitVec 32) ++ s.fcr31))
    ∧ Does (.ctc1 rt 0) s OnlyPc
    ∧ (trap = false → Does (.ctc1 rt 31) s (OnlyFcr f))
    ∧ (trap = true → exec (.ctc1 rt 31) s = .next (takeException .fpe { s with fcr31 := f }))
    ∧ (fs ≠ 0 → fs ≠ 31 → exec (.cfc1 rt fs) s = .fault .fcrUndefined
      ∧ exec (.ctc1 rt fs) s = .fault .fcrUndefined)
    ∧ (s.inSlot = false →
      Does (.bc1f imm) s (BranchesTo (!s.fcr31.getLsbD 23) target)
      ∧ Does (.bc1t imm) s (BranchesTo (s.fcr31.getLsbD 23) target)
      ∧ Does (.bc1fl imm) s (LikelyTo (!s.fcr31.getLsbD 23) target)
      ∧ Does (.bc1tl imm) s (LikelyTo (s.fcr31.getLsbD 23) target))

/-- In stand-by, no NMI pending, no instruction runs; an external input among IP[6:2] sets Freq_scale to 1;
the DLL can lock. When the events before a step leave s1 with Freq_scale 0 and no NMI pending, the step
changes no register of the core (that Random, Count and the counters stand still with the core clock is
DEDUCED, log 37; what an NMI does in stand-by is the model's choice, log 37, and not stated). If an
external interrupt input among IP[6:2] is high, whatever IM and IE are, Freq_scale becomes 1 and stand-
by ends, else every IO register stays; that those inputs are INT0..3 as Intisr[14:11] shows them and the
OR of the enabled sources 0..10 is the reading D35 of a lost figure (92_eei_decisions.md, log 35,
DEDUCED), and that the counter overflow, which drives IP[6] too, is none of them and does not wake is
DEDUCED, log 37. The DDR2 controller goes on (R922; in stand-by too: DEDUCED, log 37): not started or
ready it stays; started, it locks in this step or counts one more wait, and after a free number of waits
it does lock (the model's choice, log 33). Nothing else changes but the free-value counter.
(61_platform.md R976, 61_platform.md R940, 61_platform.md R922) -/
def Obligations.StandbyWakes : Prop :=
  ∀ s s1 : State, environment s = .ok s1 → (s1.mem.chip.io 32).extractLsb' 0 3 = 0 → s1.nmi = false →
    let wake := (∃ k, k < 4 ∧ s1.mem.chip.intisr.getLsbD (11 + k) = true)
      ∨ ∃ i, i < 11 ∧ s1.mem.chip.intisr.getLsbD i = true ∧ (s1.mem.chip.io 14).getLsbD i = true
    let c := s1.mem.chip
    let dllBit : Word := 0x0200000000000000
    ∃ t, step s = .next t ∧ { t with mem := s1.mem, tick := s1.tick } = s1 ∧ { t.mem with chip := c } = s1.mem
      ∧ { t.mem.chip with
          ioRegs := c.ioRegs, ddrReady := c.ddrReady, ddrWait := c.ddrWait
          ddrRegs := (t.mem.chip.ddrRegs.set 15 c.ddrRegs[15]).set 16
            (merge dllBit t.mem.chip.ddrRegs[16] c.ddrRegs[16]) } = c
      ∧ (¬wake → t.mem.chip.ioRegs = c.ioRegs)
      ∧ (wake → standby t = false ∧ t.mem.chip.io 32 = (c.io 32 ||| 1)
        ∧ ∀ i : Fin 64, i ≠ 32 → t.mem.chip.io i = c.io i)
      ∧ (c.ddrStarted = false ∨ c.ddrReady = true → t.mem.chip.ddrReady = c.ddrReady
        ∧ t.mem.chip.ddrWait = c.ddrWait ∧ t.mem.chip.ddrRegs = c.ddrRegs)
      ∧ (c.ddrStarted = true → c.ddrReady = false →
        (t.mem.chip.ddrReady = true ∧ t.mem.chip.ddrIntStatus.getLsbD 9 = false
          ∨ t.mem.chip.ddrReady = false ∧ t.mem.chip.ddrWait = c.ddrWait + 1 ∧ t.mem.chip.ddrRegs = c.ddrRegs)
        ∧ ((draw 256 .ddrStall 0 0).toNat ≤ c.ddrWait → t.mem.chip.ddrReady = true))

/-- A PCI master's write reaches DDR2 past the caches (byte by byte: the model's choice, log 36). That a
master acts byte by byte, gated by the inbound windows and not by the command register, is the model's
choice, log 36. When a byte a PCI master writes is accepted by an inbound window and led to DDR2 address
d, the controller is ready and d is within the memory, DDR2 byte d takes it; every other byte of DDR2,
the caches, the registers and everything else stay. (20_memory.md R295, 61_platform.md R936,
61_platform.md R918, 00_scope.md R33) -/
def Obligations.DmaBypassesCaches : Prop :=
  ∀ (s : State) (addr : Word) (b : Byte) (d : Nat),
    Memory.wf s.mem.ddr = true → dmaTarget s.mem.chip addr = .ok (.ddr d) →
    s.mem.chip.ddrReady = true → d < s.params.ddrSize →
    ∃ t, applyEvent (.dmaWrite addr [b]) s = .ok t ∧ readByte t.mem.ddr d = b
      ∧ (∀ q, q ≠ d → readByte t.mem.ddr q = readByte s.mem.ddr q)
      ∧ { t with mem := { t.mem with ddr := s.mem.ddr } } = s

end
end

