-- ==== Sys2Proof/Laws/Memory.lean ====
section
/-! SUPPORT. Sparse maps and memories: reads after writes, and the canonical form kept by every memory
operation (20_memory.md R252). -/

namespace Sys2Proof.Machine

variable {α : Type}

/-! Sparse maps. -/

theorem mapSorted_cons (j : Nat) (b : α) (r : List (Nat × α)) :
    mapSorted ((j, b) :: r) = true ↔ (∀ x ∈ r, j < x.1) ∧ mapSorted r = true := by
  simp [mapSorted, List.pairwise_cons]

theorem mapGet_none_of_lt {k : Nat} {l : List (Nat × α)} (h : ∀ x ∈ l, k < x.1) : mapGet k l = none := by
  induction l with
  | nil => rfl
  | cons x r ih =>
    have hx := h x (by simp)
    have : x.1 ≠ k := by omega
    simp only [mapGet, this, if_false]
    exact ih fun y hy => h y (by simp [hy])

theorem mapGet_mapPut (k q : Nat) (a : α) (l : List (Nat × α)) :
    mapGet q (mapPut k a l) = if q = k then some a else mapGet q l := by
  induction l with
  | nil => by_cases h : k = q <;> simp [mapPut, mapGet, h, eq_comm]
  | cons x r ih =>
    obtain ⟨j, b⟩ := x
    by_cases h1 : k < j
    · rw [mapPut, if_pos h1, mapGet]
      simp only [eq_comm]
    · by_cases h2 : j = k
      · subst h2
        rw [mapPut, if_neg h1, if_pos rfl, mapGet, mapGet]
        by_cases h : j = q
        · rw [if_pos h, if_pos h.symm]
        · rw [if_neg h, if_neg h, if_neg fun h3 => h h3.symm]
      · simp only [mapPut, h1, h2, if_false, mapGet, ih]
        by_cases h : j = q
        · have : q ≠ k := fun h3 => h2 (h.trans h3)
          simp [h, this]
        · simp [h]

theorem mem_mapPut {k : Nat} {a : α} {l : List (Nat × α)} {x : Nat × α} (h : x ∈ mapPut k a l) :
    x = (k, a) ∨ x ∈ l := by
  induction l with
  | nil => simpa [mapPut] using h
  | cons y r ih =>
    obtain ⟨j, b⟩ := y
    by_cases h1 : k < j
    · simpa [mapPut, h1] using h
    · by_cases h2 : j = k
      · rw [mapPut, if_neg h1, if_pos h2] at h
        rcases List.mem_cons.1 h with h | h
        · simp [h]
        · simp [h]
      · simp only [mapPut, h1, h2, if_false, List.mem_cons] at h
        rcases h with h | h
        · simp [h]
        · rcases ih h with h | h <;> simp [h]

theorem mapSorted_mapPut (k : Nat) (a : α) {l : List (Nat × α)} (h : mapSorted l = true) :
    mapSorted (mapPut k a l) = true := by
  induction l with
  | nil => simp [mapPut, mapSorted]
  | cons x r ih =>
    obtain ⟨j, b⟩ := x
    have hs := (mapSorted_cons j b r).1 h
    by_cases h1 : k < j
    · simp only [mapPut, h1, if_true]
      refine (mapSorted_cons _ _ _).2 ⟨fun x hx => ?_, h⟩
      rcases List.mem_cons.1 hx with hx | hx
      · simp [hx, h1]
      · exact h1.trans (hs.1 x hx)
    · by_cases h2 : j = k
      · subst h2
        simp only [mapPut, Nat.lt_irrefl, if_false, if_true]
        exact (mapSorted_cons _ _ _).2 hs
      · simp only [mapPut, h1, h2, if_false]
        refine (mapSorted_cons _ _ _).2 ⟨fun x hx => ?_, ih hs.2⟩
        rcases mem_mapPut hx with hx | hx
        · subst hx; simp only; omega
        · exact hs.1 x hx

theorem mem_mapErase {k : Nat} {l : List (Nat × α)} {x : Nat × α} (h : x ∈ mapErase k l) : x ∈ l := by
  induction l with
  | nil => simp [mapErase] at h
  | cons y r ih =>
    obtain ⟨j, b⟩ := y
    by_cases h2 : j = k
    · simp only [mapErase, h2, if_true] at h; simp [h]
    · simp only [mapErase, h2, if_false, List.mem_cons] at h
      rcases h with h | h
      · simp [h]
      · simp [ih h]

theorem mapSorted_mapErase (k : Nat) {l : List (Nat × α)} (h : mapSorted l = true) :
    mapSorted (mapErase k l) = true := by
  induction l with
  | nil => simpa [mapErase] using h
  | cons x r ih =>
    obtain ⟨j, b⟩ := x
    have hs := (mapSorted_cons j b r).1 h
    by_cases h2 : j = k
    · simpa [mapErase, h2] using hs.2
    · simp only [mapErase, h2, if_false]
      exact (mapSorted_cons _ _ _).2 ⟨fun x hx => hs.1 x (mem_mapErase hx), ih hs.2⟩

theorem mapGet_mapErase (k q : Nat) {l : List (Nat × α)} (h : mapSorted l = true) :
    mapGet q (mapErase k l) = if q = k then none else mapGet q l := by
  induction l with
  | nil => simp [mapErase, mapGet]
  | cons x r ih =>
    obtain ⟨j, b⟩ := x
    have hs := (mapSorted_cons j b r).1 h
    by_cases h2 : j = k
    · subst h2
      simp only [mapErase, if_true, mapGet]
      by_cases h : q = j
      · subst h; simp [mapGet_none_of_lt hs.1]
      · have : j ≠ q := fun h3 => h h3.symm
        simp [h, this]
    · simp only [mapErase, h2, if_false, mapGet, ih hs.2]
      by_cases h : j = q
      · have : q ≠ k := fun h3 => h2 (h.trans h3)
        simp [h, this]
      · simp [h]

/-! Ranges. -/

/-- The numbers in a list of ranges. -/
def inRanges (q : Nat) (l : List (Nat × Nat)) : Prop := ∃ p ∈ l, p.1 ≤ q ∧ q < p.2

theorem inRanges_cons (q : Nat) (x : Nat × Nat) (r : List (Nat × Nat)) :
    inRanges q (x :: r) ↔ (x.1 ≤ q ∧ q < x.2) ∨ inRanges q r := by simp [inRanges]

theorem inRanges_append (q : Nat) (l r : List (Nat × Nat)) :
    inRanges q (l ++ r) ↔ inRanges q l ∨ inRanges q r := by simp [inRanges, or_and_right, exists_or]

theorem inRanges_piece (q : Nat) (c : Prop) [Decidable c] (x : Nat × Nat) :
    inRanges q (if c then [x] else []) ↔ c ∧ x.1 ≤ q ∧ q < x.2 := by
  by_cases h : c <;> simp [inRanges, h]

/-- One number leaves rising ranges; every other number stays. -/
theorem inRanges_without {k q : Nat} {l : List (Nat × Nat)} (h : l.Pairwise fun x y => x.2 ≤ y.1) :
    inRanges q (rangesWithout k l) ↔ q ≠ k ∧ inRanges q l := by
  induction l with
  | nil => simp [rangesWithout, inRanges]
  | cons x r ih =>
    obtain ⟨a, b⟩ := x
    have hr := List.pairwise_cons.1 h
    rw [rangesWithout, inRanges_cons]
    split
    · rename_i hk
      simp only [Bool.and_eq_true, decide_eq_true_eq] at hk
      have hout : inRanges q r → b ≤ q := fun ⟨p, hp, h1, _⟩ => (hr.1 p hp).trans h1
      simp only [inRanges_append, inRanges_piece]
      by_cases hq : inRanges q r
      · have := hout hq
        simp only [hq, or_true, and_true, true_iff]
        omega
      · simp only [hq, or_false]
        omega
    · rename_i hk
      simp only [Bool.and_eq_true, decide_eq_true_eq] at hk
      rw [inRanges_cons, ih hr.2]
      by_cases hq : inRanges q r
      · simp only [hq, and_true, or_true]
        omega
      · simp only [hq, and_false, or_false]
        omega

/-! Bytes. -/

theorem Memory.wf_iff (m : Memory) :
    Memory.wf m = true ↔ mapSorted m = true ∧ ∀ x ∈ m, x.2 ≠ unlistedByte := by
  simp [Memory.wf, List.all_eq_true]

/-- A byte write keeps the canonical form. -/
theorem wf_writeByte (a : Nat) (b : Byte) {m : Memory} (h : Memory.wf m = true) :
    Memory.wf (writeByte m a b) = true := by
  rw [Memory.wf_iff] at h ⊢
  unfold writeByte
  split
  · exact ⟨mapSorted_mapErase a h.1, fun x hx => h.2 x (mem_mapErase hx)⟩
  · rename_i hb
    refine ⟨mapSorted_mapPut a b h.1, fun x hx => ?_⟩
    rcases mem_mapPut hx with hx | hx
    · simpa [hx] using hb
    · exact h.2 x hx

/-- A write of any number of bytes keeps the canonical form. -/
theorem wf_writeBytes (v : BitVec 256) (n a : Nat) {m : Memory} (h : Memory.wf m = true) :
    Memory.wf (writeBytes m a v n) = true := by
  induction n generalizing m a v with
  | zero => exact h
  | succ n ih => exact ih _ _ (wf_writeByte a _ h)

/-- Reading a byte after writing one. -/
theorem readByte_writeByte (a q : Nat) (b : Byte) {m : Memory} (h : Memory.wf m = true) :
    readByte (writeByte m a b) q = if q = a then b else readByte m q := by
  unfold writeByte readByte
  split
  · rename_i hb
    rw [mapGet_mapErase a q ((Memory.wf_iff m).1 h).1]
    by_cases hq : q = a <;> simp [hq, hb]
  · rw [mapGet_mapPut]
    by_cases hq : q = a <;> simp [hq]

/-- A write leaves every other byte alone. -/
theorem readByte_writeBytes_other (v : BitVec 256) (n a q : Nat) {m : Memory} (h : Memory.wf m = true)
    (hq : q < a ∨ a + n ≤ q) : readByte (writeBytes m a v n) q = readByte m q := by
  induction n generalizing m a v with
  | zero => rfl
  | succ n ih =>
    rw [writeBytes, ih _ _ (wf_writeByte a _ h) (by omega), readByte_writeByte _ _ _ h]
    simp [show q ≠ a by omega]

/-- A read after a write to the same place gives the bytes written. -/
theorem readByte_writeBytes (v : BitVec 256) (n a k : Nat) {m : Memory} (h : Memory.wf m = true)
    (hk : k < n) : readByte (writeBytes m a v n) (a + k) = v.extractLsb' (8 * k) 8 := by
  induction n generalizing m a v k with
  | zero => omega
  | succ n ih =>
    rw [writeBytes]
    cases k with
    | zero =>
      rw [readByte_writeBytes_other _ _ _ _ (wf_writeByte a _ h) (by omega), readByte_writeByte _ _ _ h]
      simp only [Nat.add_zero, if_true]
      apply BitVec.eq_of_getLsbD_eq; intro i hi; simp [hi]
    | succ k =>
      have := ih (v >>> 8) (a + 1) k (wf_writeByte a (v.setWidth 8) h) (by omega)
      rw [show a + (k + 1) = a + 1 + k by omega, this]
      apply BitVec.eq_of_getLsbD_eq; intro i hi
      simp [hi, Nat.mul_add, Nat.add_comm, Nat.add_left_comm]

/-! The memory system. -/

/-- Whatever memory system the operation leaves has the property. -/
def MemRes.All (P : MemSys → Prop) : MemRes α → Prop
  | .ok _ m => P m
  | .exc _ m => P m
  | .fault _ => True

theorem MemRes.All_ok {P : MemSys → Prop} (a : α) (m : MemSys) : (MemRes.ok a m).All P ↔ P m := Iff.rfl
theorem MemRes.All_fault {P : MemSys → Prop} (f : Fault) : (MemRes.fault f : MemRes α).All P ↔ True := Iff.rfl

theorem MemRes.All_bind {β : Type} {P : MemSys → Prop} {r : MemRes α} {k : α → MemSys → MemRes β}
    (h : r.All P) (hk : ∀ a m, P m → (k a m).All P) : (r.bind k).All P := by
  cases r with
  | ok a m => exact hk a m h
  | exc e m => exact h
  | fault f => trivial

theorem wf_chip {m : MemSys} (h : m.wf) (c : Chip) : ({ m with chip := c } : MemSys).wf := h
theorem wf_log {m : MemSys} (h : m.wf) (e : BusEvent) : (logBus m e).wf := h
theorem wf_gather {m : MemSys} (h : m.wf) (g : Option GatherBuf) : ({ m with gather := g } : MemSys).wf := h
theorem wf_iSet {m : MemSys} (h : m.wf) (s w : Nat) (l : ILine) : (iSet m s w l).wf :=
  ⟨h.1, h.2.1, mapSorted_mapPut _ _ h.2.2.1, h.2.2.2⟩
theorem wf_dSet {m : MemSys} (h : m.wf) (s w : Nat) (l : DLine) : (dSet m s w l).wf :=
  ⟨h.1, h.2.1, h.2.2.1, mapSorted_mapPut _ _ h.2.2.2.1, h.2.2.2.2⟩
theorem wf_warmI {m : MemSys} (h : m.wf) (s w : Nat) : (warmI m s w).wf := h
theorem wf_warmD {m : MemSys} (h : m.wf) (s w : Nat) : (warmD m s w).wf := h
theorem wf_warmS {m : MemSys} (h : m.wf) (s w : Nat) : (warmS m s w).wf := h
theorem wf_sSet {m : MemSys} (h : m.wf) (s w : Nat) (l : SLine) : (sSet m s w l).wf :=
  ⟨h.1, h.2.1, h.2.2.1, h.2.2.2.1, mapSorted_mapPut _ _ h.2.2.2.2⟩

theorem wf_deviceRead (x : MemCtx) (sp : BusSpace) (a n : Nat) {m : MemSys} (h : m.wf) :
    (deviceRead x sp a n m).All MemSys.wf := h

theorem wf_errorRead (x : MemCtx) (acc : Access) (n : Nat) {m : MemSys} (h : m.wf) :
    (errorRead x acc n m).All MemSys.wf := by
  cases acc <;> exact h

theorem wf_refusedRead (x : MemCtx) (acc : Access) (n : Nat) {m : MemSys} (h : m.wf) :
    (refusedRead x acc n m).All MemSys.wf := by
  unfold refusedRead
  split
  · exact wf_errorRead _ _ _ h
  · exact h

theorem wf_answeredRead (x : MemCtx) (acc : Access) (err : Bool) (sp : BusSpace) (a n : Nat) {m : MemSys}
    (h : m.wf) : (answeredRead x acc err sp a n m).All MemSys.wf := by
  unfold answeredRead
  split
  · exact wf_errorRead _ _ _ h
  · exact wf_deviceRead _ _ _ _ h

theorem wf_pciRead (x : MemCtx) (acc : Access) (err : Bool) (sp : BusSpace) (a n : Nat) {m : MemSys}
    (h : m.wf) : (pciRead x acc err sp a n m).All MemSys.wf := by
  unfold pciRead
  split
  · split
    · trivial
    · exact wf_refusedRead _ _ _ (wf_chip h _)
  · exact wf_answeredRead _ _ _ _ _ _ h

theorem wf_pciMemRead (x : MemCtx) (acc : Access) (err : Bool) (a n : Nat) {m : MemSys} (h : m.wf) :
    (pciMemRead x acc err a n m).All MemSys.wf := by
  unfold pciMemRead
  split
  · exact wf_refusedRead _ _ _ h
  · exact wf_pciRead _ _ _ _ _ _ h

theorem wf_lioRead (x : MemCtx) (acc : Access) (err : Bool) (a n : Nat) {m : MemSys} (h : m.wf) :
    (lioRead x acc err a n m).All MemSys.wf := by
  unfold lioRead
  split
  · exact wf_refusedRead _ _ _ h
  · exact wf_answeredRead _ _ _ _ _ _ h

theorem wf_ioRead (x : MemCtx) (acc : Access) (err : Bool) (a n : Nat) {m : MemSys} (h : m.wf) :
    (ioRead x acc err a n m).All MemSys.wf := by
  unfold ioRead
  dsimp only
  split
  · trivial
  · split <;> first
      | trivial
      | exact h
      | exact wf_lioRead _ _ _ _ _ h
      | exact wf_pciMemRead _ _ _ _ _ h
      | exact wf_pciRead _ _ _ _ _ _ h

theorem wf_ioWrite (a n : Nat) (v : BitVec 256) {m : MemSys} (h : m.wf) :
    (ioWrite a n v m).All MemSys.wf := by
  unfold ioWrite
  dsimp only
  split
  · trivial
  · split <;> trivial

theorem wf_ddrRead (x : MemCtx) (a n : Nat) {m : MemSys} (h : m.wf) : (ddrRead x a n m).All MemSys.wf := by
  unfold ddrRead
  dsimp only
  split
  · exact h
  · split
    · exact h
    · exact wf_chip h _

theorem wf_ddrWrite (x : MemCtx) (a n : Nat) (v : BitVec 256) {m : MemSys} (h : m.wf) :
    (ddrWrite x a n v m).wf := by
  unfold ddrWrite
  split
  · exact h
  · split
    · exact ⟨wf_writeBytes _ _ _ h.1, h.2⟩
    · exact wf_chip h _

theorem wf_busRead (x : MemCtx) (acc : Access) (pa : PAddr) (n : Nat) {m : MemSys} (h : m.wf) :
    (busRead x acc pa n m).All MemSys.wf := by
  unfold busRead
  split
  · trivial
  · exact h
  · exact h
  · exact wf_ddrRead _ _ _ h
  · exact wf_ioRead _ _ _ _ _ h
  · exact h

theorem wf_busWrite (x : MemCtx) (pa : PAddr) (n : Nat) (v : BitVec 256) {m : MemSys} (h : m.wf) :
    (busWrite x pa n v m).All MemSys.wf := by
  unfold busWrite
  split
  · trivial
  · split
    · exact h
    · trivial
  · split
    · exact h
    · split
      · exact h
      · trivial
  · exact wf_ddrWrite _ _ _ _ h
  · exact wf_ioWrite _ _ _ h
  · exact h

/-! Cache lines. -/

theorem lineKey {q v set w : Nat} (hv : v < 4) (hw : w < 4) : q * 4 + v = set * 4 + w ↔ q = set ∧ v = w := by
  omega

/-- An instruction-cache line read after one was written. -/
theorem iGet_iSet (m : MemSys) {q v set w : Nat} (l : ILine) (hv : v < 4) (hw : w < 4) :
    iGet (iSet m set w l) q v = if q = set ∧ v = w then l else iGet m q v := by
  simp only [iGet, iSet, mapGet_mapPut, lineKey hv hw]
  split <;> rfl

/-- A data-cache line read after one was written. -/
theorem dGet_dSet (m : MemSys) {q v set w : Nat} (l : DLine) (hv : v < 4) (hw : w < 4) :
    dGet (dSet m set w l) q v = if q = set ∧ v = w then l else dGet m q v := by
  simp only [dGet, dSet, mapGet_mapPut, lineKey hv hw]
  split <;> rfl

/-- A level-2 line read after one was written. -/
theorem sGet_sSet (m : MemSys) {q v set w : Nat} (l : SLine) (hv : v < 4) (hw : w < 4) :
    sGet (sSet m set w l) q v = if q = set ∧ v = w then l else sGet m q v := by
  simp only [sGet, sSet, mapGet_mapPut, lineKey hv hw]
  split <;> rfl

/-- The places of a line: four ways of the four sets with its page-offset bits (20_memory.md R294). -/
theorem mem_l1Places {pa : PAddr} {q v : Nat} :
    (q, v) ∈ l1Places pa ↔ v < 4 ∧ q < 512 ∧ q % 128 = (pa.extractLsb' 5 7).toNat := by
  have hk := (pa.extractLsb' 5 7).isLt
  have hw : ∀ c, c ∈ ways ↔ c < 4 := fun c => by simp [ways]; omega
  simp only [l1Places, List.mem_flatMap, List.mem_map, Prod.mk.injEq, hw]
  generalize (pa.extractLsb' 5 7).toNat = k at hk ⊢
  constructor
  · rintro ⟨c, hc, w, hw, rfl, rfl⟩
    omega
  · rintro ⟨hv, hq, h⟩
    exact ⟨q / 128, by omega, v, hv, by omega, rfl⟩

/-- One place dropped: its V is cleared if it is a copy, and nothing else changes (R689 step 2). -/
theorem iGet_dropICopy (pa : PAddr) (m : MemSys) (p : Nat × Nat) {q v : Nat} (hv : v < 4) (hp : p.2 < 4) :
    iGet (dropICopy pa m p) q v
      = { iGet m q v with v := (iGet m q v).v && !((q, v) == p && (iGet m q v).tag == l1Tag pa) } := by
  obtain ⟨a, b⟩ := p
  unfold dropICopy
  dsimp only
  by_cases he : q = a ∧ v = b
  · obtain ⟨rfl, rfl⟩ := he
    split
    · rename_i h
      rw [Bool.and_eq_true] at h
      rw [iGet_iSet _ _ hv hp, if_pos ⟨rfl, rfl⟩]
      simp [h.2]
    · rename_i h
      generalize iGet m q v = x at h ⊢
      obtain ⟨xv, xt, xd⟩ := x
      cases xv <;> simp_all
  · have hne : ((q, v) == (a, b)) = false := by simpa using fun h1 h2 => he ⟨h1, h2⟩
    rw [hne]
    simp only [Bool.false_and, Bool.not_false, Bool.and_true]
    split
    · rw [iGet_iSet _ _ hv hp, if_neg he]
    · rfl

/-- The instruction-cache copies dropped: the V of each is cleared, and nothing else changes (R689 step 2). -/
theorem iGet_dropICopies (pa : PAddr) (m : MemSys) {q v : Nat} (hv : v < 4) :
    iGet (dropICopies pa m) q v
      = { iGet m q v with v := (iGet m q v).v && !((l1Places pa).contains (q, v)
            && (iGet m q v).tag == l1Tag pa) } := by
  unfold dropICopies
  have hp : ∀ p ∈ l1Places pa, p.2 < 4 := fun p hp => (mem_l1Places (q := p.1).1 hp).1
  generalize l1Places pa = ps at hp ⊢
  induction ps generalizing m with
  | nil => simp
  | cons p ps ih =>
    rw [List.foldl_cons, ih _ fun r hr => hp r (by simp [hr]), iGet_dropICopy pa m p hv (hp p (by simp))]
    cases (iGet m q v).v <;> cases (iGet m q v).tag == l1Tag pa <;>
      by_cases h1 : (q, v) = p <;> by_cases h2 : (q, v) ∈ ps <;> simp [h1, h2]

/-- A data-cache line dropped; a dirty one with `wb` gets its W bit (R689 step 3, R691 step 3). -/
def droppedLine (wb : Bool) (x : DLine) : DLine := { x with cs := 0, w := x.w || (wb && x.cs == 3) }

/-- One place dropped: its line is if it is a copy, and no other line changes (R689 step 3, R691 step 3). -/
theorem dGet_dropDCopy (wb : Bool) (pa : PAddr) (r : SLine × MemSys) (p : Nat × Nat) {q v : Nat} (hv : v < 4)
    (hp : p.2 < 4) : dGet (dropDCopy wb pa r p).2 q v
      = if (q, v) = p ∧ (dGet r.2 q v).cs ≠ 0 ∧ (dGet r.2 q v).tag = l1Tag pa then droppedLine wb (dGet r.2 q v)
        else dGet r.2 q v := by
  obtain ⟨a, b⟩ := p
  unfold dropDCopy
  dsimp only
  by_cases he : q = a ∧ v = b
  · obtain ⟨rfl, rfl⟩ := he
    by_cases h : (dGet r.2 q v).cs ≠ 0 ∧ (dGet r.2 q v).tag = l1Tag pa
    · have hd : ((dGet r.2 q v).cs != 0 && (dGet r.2 q v).tag == l1Tag pa) = true := by simpa using h
      have hc : (q, v) = (q, v) ∧ (dGet r.2 q v).cs ≠ 0 ∧ (dGet r.2 q v).tag = l1Tag pa := ⟨rfl, h⟩
      rw [if_pos hd, if_pos hc, droppedLine]
      cases hb : (wb && (dGet r.2 q v).cs == 3)
      · rw [if_neg Bool.false_ne_true, dGet_dSet _ _ hv hp, if_pos ⟨rfl, rfl⟩, Bool.or_false]
      · rw [if_pos rfl, dGet_dSet _ _ hv hp, if_pos ⟨rfl, rfl⟩, Bool.or_true]
    · have hd : ((dGet r.2 q v).cs != 0 && (dGet r.2 q v).tag == l1Tag pa) = false := by simpa using h
      simp only [hd, h, and_false, Bool.false_eq_true, reduceIte]
  · have hne : (q, v) ≠ (a, b) := by simpa using fun h1 h2 => he ⟨h1, h2⟩
    simp only [hne, false_and, reduceIte]
    split
    · split <;> rw [dGet_dSet _ _ hv hp, if_neg he]
    · rfl

/-- The data-cache copies dropped, and no other line changes (R689 step 3, R691 step 3). -/
theorem dGet_dropDCopies (wb : Bool) (pa : PAddr) (l : SLine) (m : MemSys) {q v : Nat} (hv : v < 4) :
    dGet (dropDCopies wb pa l m).2 q v
      = if (q, v) ∈ l1Places pa ∧ (dGet m q v).cs ≠ 0 ∧ (dGet m q v).tag = l1Tag pa then
          droppedLine wb (dGet m q v)
        else dGet m q v := by
  unfold dropDCopies
  have hp : ∀ p ∈ l1Places pa, p.2 < 4 := fun p hp => (mem_l1Places (q := p.1).1 hp).1
  generalize l1Places pa = ps at hp ⊢
  suffices H : ∀ r : SLine × MemSys, dGet (ps.foldl (dropDCopy wb pa) r).2 q v
      = if (q, v) ∈ ps ∧ (dGet r.2 q v).cs ≠ 0 ∧ (dGet r.2 q v).tag = l1Tag pa then
          droppedLine wb (dGet r.2 q v)
        else dGet r.2 q v
    from H (l, m)
  induction ps with
  | nil => exact fun r => by simp
  | cons p ps ih =>
    intro r
    rw [List.foldl_cons, ih (fun r hr => hp r (by simp [hr])) (dropDCopy wb pa r p),
      dGet_dropDCopy wb pa r p hv (hp p (by simp))]
    have h0 : (droppedLine wb (dGet r.2 q v)).cs = 0 := rfl
    generalize dGet r.2 q v = x at h0 ⊢
    generalize hy : droppedLine wb x = y at h0 ⊢
    by_cases h3 : (q, v) = p <;> by_cases h4 : (q, v) ∈ ps <;> by_cases hc : x.cs = 0 <;>
      by_cases ht : x.tag = l1Tag pa <;> simp_all

/-- Dropping a place makes no line dirty and changes no tag (R689 step 3). -/
theorem dGet_dropDCopy_clean (wb : Bool) (pa : PAddr) (r : SLine × MemSys) (p : Nat × Nat) {q v : Nat}
    (hv : v < 4) (hp : p.2 < 4) : (dGet (dropDCopy wb pa r p).2 q v).tag = (dGet r.2 q v).tag
      ∧ ((dGet r.2 q v).cs ≠ 3 → (dGet (dropDCopy wb pa r p).2 q v).cs ≠ 3) := by
  rw [dGet_dropDCopy wb pa r p hv hp]
  split
  · exact ⟨rfl, fun _ => by simp [droppedLine]⟩
  · exact ⟨rfl, id⟩

/-- A place that holds no dirty copy gives the level-2 line nothing (R689 step 3). -/
theorem sLine_dropDCopy (wb : Bool) (pa : PAddr) (r : SLine × MemSys) (p : Nat × Nat)
    (h : wb = false ∨ (dGet r.2 p.1 p.2).cs ≠ 3 ∨ (dGet r.2 p.1 p.2).tag ≠ l1Tag pa) :
    (dropDCopy wb pa r p).1 = r.1 := by
  unfold dropDCopy
  dsimp only
  split
  · split
    · simp_all
    · rfl
  · rfl

/-- Without a dirty copy among the places the level-2 line stays (R689 step 3). -/
theorem sLine_places (wb : Bool) (pa : PAddr) (ps : List (Nat × Nat)) (r : SLine × MemSys)
    (hp : ∀ p ∈ ps, p.2 < 4) (h : wb = false ∨ ∀ p ∈ ps, (dGet r.2 p.1 p.2).tag = l1Tag pa →
      (dGet r.2 p.1 p.2).cs ≠ 3) : (ps.foldl (dropDCopy wb pa) r).1 = r.1 := by
  induction ps generalizing r with
  | nil => rfl
  | cons p ps ih =>
    rw [List.foldl_cons, ih _ fun q hq => hp q (by simp [hq])]
    · refine sLine_dropDCopy wb pa r p (h.imp_right fun h => ?_)
      by_cases ht : (dGet r.2 p.1 p.2).tag = l1Tag pa
      · exact .inl (h p (by simp) ht)
      · exact .inr ht
    · refine h.imp_right fun h q hq ht => ?_
      have hk := dGet_dropDCopy_clean wb pa r p (hp q (by simp [hq])) (hp p (by simp)) (q := q.1)
      exact hk.2 (h q (by simp [hq]) (hk.1 ▸ ht))

/-- Without a dirty copy the level-2 line stays as it was (R689 step 3, R691 step 3). -/
theorem sLine_dropDCopies (wb : Bool) (pa : PAddr) (l : SLine) (m : MemSys)
    (h : wb = false ∨ ∀ p ∈ l1Places pa, (dGet m p.1 p.2).tag = l1Tag pa → (dGet m p.1 p.2).cs ≠ 3) :
    (dropDCopies wb pa l m).1 = l :=
  sLine_places wb pa _ (l, m) (fun p hp => (mem_l1Places (q := p.1).1 hp).1) h

/-- The only dirty copy goes into the level-2 line, which becomes Dirty (R689 step 3). -/
theorem sLine_dropDCopies_dirty (pa : PAddr) (l : SLine) (m : MemSys) {p : Nat × Nat} (hp : p ∈ l1Places pa)
    (ht : (dGet m p.1 p.2).tag = l1Tag pa) (hc : (dGet m p.1 p.2).cs = 3)
    (h : ∀ q ∈ l1Places pa, q ≠ p → (dGet m q.1 q.2).tag = l1Tag pa → (dGet m q.1 q.2).cs ≠ 3) :
    (dropDCopies true pa l m).1 = { l with st := 3, data := (dGet m p.1 p.2).data } := by
  unfold dropDCopies
  have h4 : ∀ p ∈ l1Places pa, p.2 < 4 := fun p hp => (mem_l1Places (q := p.1).1 hp).1
  generalize l1Places pa = ps at hp h h4
  suffices H : ∀ r : SLine × MemSys, (dGet r.2 p.1 p.2).tag = l1Tag pa → (dGet r.2 p.1 p.2).cs = 3 →
      (∀ q ∈ ps, q ≠ p → (dGet r.2 q.1 q.2).tag = l1Tag pa → (dGet r.2 q.1 q.2).cs ≠ 3) →
      (ps.foldl (dropDCopy true pa) r).1 = { r.1 with st := 3, data := (dGet r.2 p.1 p.2).data } from
    H (l, m) ht hc h
  clear ht hc h
  induction ps with
  | nil => cases hp
  | cons a ps ih =>
    intro r ht hc h
    have ha := h4 a (by simp)
    have keep : ∀ q : Nat × Nat, q.2 < 4 → q ≠ a → dGet (dropDCopy true pa r a).2 q.1 q.2 = dGet r.2 q.1 q.2 :=
      fun q hq hne => by rw [dGet_dropDCopy true pa r a hq ha, if_neg fun h => hne h.1]
    rw [List.foldl_cons]
    by_cases he : a = p
    · subst he
      have h1 : (dropDCopy true pa r a).1 = { r.1 with st := 3, data := (dGet r.2 a.1 a.2).data } := by
        unfold dropDCopy; simp [ht, hc]
      rw [sLine_places _ _ _ _ (fun q hq => h4 q (by simp [hq])), h1]
      refine .inr fun q hq htq => ?_
      have hq4 := h4 q (by simp [hq])
      by_cases hqa : q = a
      · subst hqa
        rw [dGet_dropDCopy true pa r q hq4 hq4, if_pos ⟨rfl, by rw [hc]; decide, ht⟩]
        simp [droppedLine]
      · rw [keep q hq4 hqa] at htq ⊢
        exact h q (by simp [hq]) hqa htq
    · have hpm : p ∈ ps := by simpa [Ne.symm he] using hp
      have hw := keep p (h4 p hp) (Ne.symm he)
      have h1 : (dropDCopy true pa r a).1 = r.1 := by
        refine sLine_dropDCopy true pa r a (.inr ?_)
        by_cases hta : (dGet r.2 a.1 a.2).tag = l1Tag pa
        · exact .inl (h a (by simp) he hta)
        · exact .inr hta
      rw [ih hpm (fun q hq => h4 q (by simp [hq])) _ (by rw [hw]; exact ht) (by rw [hw]; exact hc), h1, hw]
      intro q hq hne htq
      have hk := dGet_dropDCopy_clean true pa r a (h4 q (by simp [hq])) ha (q := q.1)
      exact hk.2 (h q (by simp [hq]) hne (hk.1 ▸ htq))

theorem wf_foldl {β : Type} (f : MemSys → β → MemSys) (hf : ∀ m b, m.wf → (f m b).wf) (l : List β)
    {m : MemSys} (h : m.wf) : (l.foldl f m).wf := by
  induction l generalizing m with
  | nil => exact h
  | cons b l ih => exact ih (hf m b h)

theorem wf_dropICopies (pa : PAddr) {m : MemSys} (h : m.wf) : (dropICopies pa m).wf := by
  unfold dropICopies
  refine wf_foldl _ (fun m p hm => ?_) _ h
  unfold dropICopy
  dsimp only
  split
  · exact wf_iSet hm _ _ _
  · exact hm

theorem wf_dropDCopies (wb : Bool) (pa : PAddr) (s : SLine) {m : MemSys} (h : m.wf) :
    (dropDCopies wb pa s m).2.wf := by
  unfold dropDCopies
  suffices H : ∀ (l : List (Nat × Nat)) (r : SLine × MemSys), r.2.wf →
      (l.foldl (dropDCopy wb pa) r).2.wf from H _ _ h
  intro l
  induction l with
  | nil => exact fun r hr => hr
  | cons p l ih =>
    intro r hr
    apply ih
    unfold dropDCopy
    dsimp only
    split
    · split <;> exact wf_dSet hr _ _ _
    · exact hr

theorem wf_evictS (x : MemCtx) (set way : Nat) {m : MemSys} (h : m.wf) :
    (evictS x set way m).All MemSys.wf := by
  unfold evictS
  dsimp only
  split
  · exact h
  · have h1 := wf_dropDCopies true (l2Addr (sGet m set way).tag set) (sGet m set way)
      (wf_dropICopies (l2Addr (sGet m set way).tag set) h)
    generalize dropDCopies true (l2Addr (sGet m set way).tag set) (sGet m set way)
      (dropICopies (l2Addr (sGet m set way).tag set) m) = r at h1 ⊢
    split
    · exact wf_busWrite _ _ _ _ (wf_sSet h1 _ _ _)
    · exact wf_sSet h1 _ _ _

theorem wf_writeBackD (x : MemCtx) (set : Nat) (l : DLine) {m : MemSys} (h : m.wf) :
    (writeBackD x set l m).All MemSys.wf := by
  unfold writeBackD
  dsimp only
  split
  · exact wf_busWrite _ _ _ _ (wf_sSet h _ _ _)
  · exact wf_sSet h _ _ _

theorem wf_evictD (x : MemCtx) (set way : Nat) {m : MemSys} (h : m.wf) :
    (evictD x set way m).All MemSys.wf := by
  unfold evictD
  dsimp only
  split
  · exact MemRes.All_bind (wf_writeBackD _ _ _ h) fun _ m1 h1 => wf_dSet h1 _ _ _
  · exact wf_dSet h _ _ _

theorem wf_fillS (x : MemCtx) (acc : Access) (pa : PAddr) {m : MemSys} (h : m.wf) :
    (fillS x acc pa m).All MemSys.wf := by
  unfold fillS
  exact MemRes.All_bind (wf_busRead _ _ _ _ h) fun _ m1 h1 =>
    MemRes.All_bind (wf_evictS _ _ _ h1) fun _ m2 h2 => wf_sSet h2 _ _ _

theorem wf_refreshS (x : MemCtx) (acc : Access) (pa : PAddr) (w : Nat) {m : MemSys} (h : m.wf) :
    (refreshS x acc pa w m).All MemSys.wf := by
  unfold refreshS
  split
  · exact h
  · exact MemRes.All_bind (wf_busRead _ _ _ _ h) fun _ m1 h1 => wf_sSet h1 _ _ _

theorem wf_ensureS (x : MemCtx) (acc : Access) (pa : PAddr) {m : MemSys} (h : m.wf) :
    (ensureS x acc pa m).All MemSys.wf := by
  unfold ensureS
  split
  · split
    · exact wf_refreshS _ _ _ _ h
    · exact h
  · exact wf_fillS _ _ _ h

theorem wf_sourceLine (x : MemCtx) (acc : Access) (pa : PAddr) {m : MemSys} (h : m.wf) :
    (sourceLine x acc pa m).All MemSys.wf := by
  unfold sourceLine
  exact MemRes.All_bind (wf_ensureS _ _ _ h) fun _ m1 h1 => h1

theorem wf_ensureD (x : MemCtx) (acc : Access) (va : Word) (pa : PAddr) {m : MemSys} (h : m.wf) :
    (ensureD x acc va pa m).All MemSys.wf := by
  unfold ensureD
  dsimp only
  split
  · trivial
  · split
    · exact h
    · exact MemRes.All_bind (wf_sourceLine _ _ _ h) fun _ m1 h1 =>
        MemRes.All_bind (wf_evictD _ _ _ h1) fun _ m2 h2 => wf_dSet h2 _ _ _

theorem wf_ensureI (x : MemCtx) (va : Word) (pa : PAddr) {m : MemSys} (h : m.wf) :
    (ensureI x va pa m).All MemSys.wf := by
  unfold ensureI
  dsimp only
  split
  · trivial
  · split
    · exact h
    · exact MemRes.All_bind (wf_sourceLine _ _ _ h) fun _ m1 h1 => wf_iSet h1 _ _ _

theorem wf_drainBytes (x : MemCtx) (g : GatherBuf) (k : Nat) {m : MemSys} (h : m.wf) :
    (drainBytes x g k m).All MemSys.wf := by
  induction k generalizing m with
  | zero => exact h
  | succ k ih =>
    unfold drainBytes
    dsimp only
    split
    · exact MemRes.All_bind (wf_busWrite _ _ _ _ h) fun _ m1 h1 => ih h1
    · exact ih h

theorem wf_drainGather (x : MemCtx) {m : MemSys} (h : m.wf) : (drainGather x m).All MemSys.wf := by
  unfold drainGather
  split
  · exact h
  · split
    · exact wf_busWrite _ _ _ _ (wf_gather h _)
    · exact wf_drainBytes _ _ _ (wf_gather h _)

theorem wf_gatherStore (x : MemCtx) (pa : PAddr) (n : Nat) (v : BitVec 256) {m : MemSys} (h : m.wf) :
    (gatherStore x pa n v m).All MemSys.wf := by
  unfold gatherStore
  dsimp only
  split
  · split
    · split
      · exact wf_drainGather _ (wf_gather h _)
      · exact wf_gather h _
    · refine MemRes.All_bind (wf_drainGather _ h) fun _ m1 h1 => ?_
      split
      · exact wf_drainGather _ (wf_gather h1 _)
      · exact wf_gather h1 _
  · split
    · exact wf_drainGather _ (wf_gather h _)
    · exact wf_gather h _

/-- A data read keeps the canonical form. -/
theorem wf_readAttr (x : MemCtx) (c : BitVec 3) (va : Word) (pa : PAddr) (n : Nat) {m : MemSys}
    (h : m.wf) : (readAttr x c va pa n m).All MemSys.wf := by
  unfold readAttr
  split
  · exact MemRes.All_bind (wf_ensureD _ _ _ _ h) fun _ m1 h1 => h1
  · split
    · exact MemRes.All_bind (wf_drainGather _ h) fun _ m1 h1 => wf_busRead _ _ _ _ h1
    · exact wf_busRead _ _ _ _ h

/-- A data write keeps the canonical form. -/
theorem wf_writeAttr (x : MemCtx) (c : BitVec 3) (va : Word) (pa : PAddr) (n : Nat) (v : BitVec 256)
    {m : MemSys} (h : m.wf) : (writeAttr x c va pa n v m).All MemSys.wf := by
  unfold writeAttr
  split
  · exact MemRes.All_bind (wf_ensureD _ _ _ _ h) fun _ m1 h1 => wf_dSet h1 _ _ _
  · split
    · exact wf_gatherStore _ _ _ _ h
    · exact MemRes.All_bind (wf_drainGather _ h) fun _ m1 h1 => wf_busWrite _ _ _ _ h1

/-- An instruction read keeps the canonical form. -/
theorem wf_fetchAttr (x : MemCtx) (c : BitVec 3) (va : Word) (pa : PAddr) {m : MemSys} (h : m.wf) :
    (fetchAttr x c va pa m).All MemSys.wf := by
  unfold fetchAttr
  split
  · exact MemRes.All_bind (wf_ensureI _ _ _ h) fun _ m1 h1 => h1
  · exact MemRes.All_bind (wf_busRead _ _ _ _ h) fun _ m1 h1 => h1

theorem MemRes.All_keep {P : MemSys → Prop} {r : MemRes Unit} {β : Type} (b : β) (h : r.All P) :
    (r.bind fun _ m1 => MemRes.ok b m1).All P := MemRes.All_bind h fun _ _ h1 => h1

/-- A CACHE operation keeps the canonical form. -/
theorem wf_cacheOp (x : MemCtx) (opn : Reg) (va : Word) (pa : PAddr) (lo hi : BitVec 32) {m : MemSys}
    (h : m.wf) : (cacheOp x opn va pa lo hi m).All MemSys.wf := by
  unfold cacheOp
  dsimp only
  split <;> (try split) <;> (try simp only [MemRes.All_ok, MemRes.All_fault]) <;> with_reducible (first
    | exact h
    | exact wf_foldl _ (fun m b hm => wf_warmI (wf_iSet hm _ _ _) _ _) _ h
    | exact wf_warmD (wf_dSet h _ _ _) _ _
    | exact wf_warmS (wf_sSet h _ _ _) _ _
    | exact wf_dSet h _ _ _
    | exact wf_sSet h _ _ _
    | exact MemRes.All_keep _ (wf_evictD _ _ _ h)
    | exact MemRes.All_keep _ (wf_evictS _ _ _ h)
    | exact wf_sSet (wf_dropDCopies _ _ _ (wf_dropICopies _ h)) _ _ _)

theorem wf_memRead (s : State) (al : Bool) (va st : Word) (n : Nat) (h : s.mem.wf) :
    (memRead s al va st n).All MemSys.wf := by
  unfold memRead
  split
  · exact wf_readAttr _ _ _ _ _ h
  · exact h
  · trivial

theorem wf_memWrite (s : State) (al : Bool) (va st : Word) (n : Nat) (v : BitVec 256) (h : s.mem.wf) :
    (memWrite s al va st n v).All MemSys.wf := by
  unfold memWrite
  split
  · exact wf_writeAttr _ _ _ _ _ _ h
  · exact h
  · trivial

/-- The memory system at reset is in canonical form when the ROM's content is. -/
theorem wf_reset (p : ChipParams) {rom : Memory} (h : Memory.wf rom = true) : (MemSys.reset p rom).wf :=
  ⟨rfl, h, rfl, rfl, rfl⟩

end Sys2Proof.Machine
end

