-- ==== Sys2Proof/Laws/State.lean ====
section
/-! SUPPORT. One lemma per field per update of the state, so that no proof unfolds a record update, and
what a register reads after a register write. -/

namespace Sys2Proof.Machine

/-! `State.setReg`: only `gpr`. -/

@[simp] theorem setReg_hi (s : State) (r : Reg) (v : Word) : (s.setReg r v).hi = s.hi := by unfold State.setReg; split <;> rfl
@[simp] theorem setReg_lo (s : State) (r : Reg) (v : Word) : (s.setReg r v).lo = s.lo := by unfold State.setReg; split <;> rfl
@[simp] theorem setReg_pc (s : State) (r : Reg) (v : Word) : (s.setReg r v).pc = s.pc := by unfold State.setReg; split <;> rfl
@[simp] theorem setReg_nextPc (s : State) (r : Reg) (v : Word) : (s.setReg r v).nextPc = s.nextPc := by unfold State.setReg; split <;> rfl
@[simp] theorem setReg_inSlot (s : State) (r : Reg) (v : Word) : (s.setReg r v).inSlot = s.inSlot := by unfold State.setReg; split <;> rfl
@[simp] theorem setReg_llBit (s : State) (r : Reg) (v : Word) : (s.setReg r v).llBit = s.llBit := by unfold State.setReg; split <;> rfl
@[simp] theorem setReg_llAddr (s : State) (r : Reg) (v : Word) : (s.setReg r v).llAddr = s.llAddr := by unfold State.setReg; split <;> rfl
@[simp] theorem setReg_fpr (s : State) (r : Reg) (v : Word) : (s.setReg r v).fpr = s.fpr := by unfold State.setReg; split <;> rfl
@[simp] theorem setReg_fcr31 (s : State) (r : Reg) (v : Word) : (s.setReg r v).fcr31 = s.fcr31 := by unfold State.setReg; split <;> rfl
@[simp] theorem setReg_cp0 (s : State) (r : Reg) (v : Word) : (s.setReg r v).cp0 = s.cp0 := by unfold State.setReg; split <;> rfl
@[simp] theorem setReg_tlb (s : State) (r : Reg) (v : Word) : (s.setReg r v).tlb = s.tlb := by unfold State.setReg; split <;> rfl
@[simp] theorem setReg_itlb (s : State) (r : Reg) (v : Word) : (s.setReg r v).itlb = s.itlb := by unfold State.setReg; split <;> rfl
@[simp] theorem setReg_mem (s : State) (r : Reg) (v : Word) : (s.setReg r v).mem = s.mem := by unfold State.setReg; split <;> rfl
@[simp] theorem setReg_nmi (s : State) (r : Reg) (v : Word) : (s.setReg r v).nmi = s.nmi := by unfold State.setReg; split <;> rfl
@[simp] theorem setReg_inputs (s : State) (r : Reg) (v : Word) : (s.setReg r v).inputs = s.inputs := by unfold State.setReg; split <;> rfl
@[simp] theorem setReg_tick (s : State) (r : Reg) (v : Word) : (s.setReg r v).tick = s.tick := by unfold State.setReg; split <;> rfl
@[simp] theorem setReg_params (s : State) (r : Reg) (v : Word) : (s.setReg r v).params = s.params := by unfold State.setReg; split <;> rfl

/-! `link`: only `gpr`. -/

@[simp] theorem link_hi (s : State) (r : Reg) : (link r s).hi = s.hi := by unfold link; simp
@[simp] theorem link_lo (s : State) (r : Reg) : (link r s).lo = s.lo := by unfold link; simp
@[simp] theorem link_pc (s : State) (r : Reg) : (link r s).pc = s.pc := by unfold link; simp
@[simp] theorem link_nextPc (s : State) (r : Reg) : (link r s).nextPc = s.nextPc := by unfold link; simp
@[simp] theorem link_inSlot (s : State) (r : Reg) : (link r s).inSlot = s.inSlot := by unfold link; simp
@[simp] theorem link_llBit (s : State) (r : Reg) : (link r s).llBit = s.llBit := by unfold link; simp
@[simp] theorem link_llAddr (s : State) (r : Reg) : (link r s).llAddr = s.llAddr := by unfold link; simp
@[simp] theorem link_fpr (s : State) (r : Reg) : (link r s).fpr = s.fpr := by unfold link; simp
@[simp] theorem link_fcr31 (s : State) (r : Reg) : (link r s).fcr31 = s.fcr31 := by unfold link; simp
@[simp] theorem link_cp0 (s : State) (r : Reg) : (link r s).cp0 = s.cp0 := by unfold link; simp
@[simp] theorem link_tlb (s : State) (r : Reg) : (link r s).tlb = s.tlb := by unfold link; simp
@[simp] theorem link_itlb (s : State) (r : Reg) : (link r s).itlb = s.itlb := by unfold link; simp
@[simp] theorem link_mem (s : State) (r : Reg) : (link r s).mem = s.mem := by unfold link; simp
@[simp] theorem link_nmi (s : State) (r : Reg) : (link r s).nmi = s.nmi := by unfold link; simp
@[simp] theorem link_inputs (s : State) (r : Reg) : (link r s).inputs = s.inputs := by unfold link; simp
@[simp] theorem link_tick (s : State) (r : Reg) : (link r s).tick = s.tick := by unfold link; simp
@[simp] theorem link_params (s : State) (r : Reg) : (link r s).params = s.params := by unfold link; simp

/-! `State.setFprAt`: only `fpr`. -/

@[simp] theorem setFprAt_gpr (s : State) (r : Reg) (v : Word) : (s.setFprAt r v).gpr = s.gpr := rfl
@[simp] theorem setFprAt_hi (s : State) (r : Reg) (v : Word) : (s.setFprAt r v).hi = s.hi := rfl
@[simp] theorem setFprAt_lo (s : State) (r : Reg) (v : Word) : (s.setFprAt r v).lo = s.lo := rfl
@[simp] theorem setFprAt_pc (s : State) (r : Reg) (v : Word) : (s.setFprAt r v).pc = s.pc := rfl
@[simp] theorem setFprAt_nextPc (s : State) (r : Reg) (v : Word) : (s.setFprAt r v).nextPc = s.nextPc := rfl
@[simp] theorem setFprAt_inSlot (s : State) (r : Reg) (v : Word) : (s.setFprAt r v).inSlot = s.inSlot := rfl
@[simp] theorem setFprAt_llBit (s : State) (r : Reg) (v : Word) : (s.setFprAt r v).llBit = s.llBit := rfl
@[simp] theorem setFprAt_llAddr (s : State) (r : Reg) (v : Word) : (s.setFprAt r v).llAddr = s.llAddr := rfl
@[simp] theorem setFprAt_fcr31 (s : State) (r : Reg) (v : Word) : (s.setFprAt r v).fcr31 = s.fcr31 := rfl
@[simp] theorem setFprAt_cp0 (s : State) (r : Reg) (v : Word) : (s.setFprAt r v).cp0 = s.cp0 := rfl
@[simp] theorem setFprAt_tlb (s : State) (r : Reg) (v : Word) : (s.setFprAt r v).tlb = s.tlb := rfl
@[simp] theorem setFprAt_itlb (s : State) (r : Reg) (v : Word) : (s.setFprAt r v).itlb = s.itlb := rfl
@[simp] theorem setFprAt_mem (s : State) (r : Reg) (v : Word) : (s.setFprAt r v).mem = s.mem := rfl
@[simp] theorem setFprAt_nmi (s : State) (r : Reg) (v : Word) : (s.setFprAt r v).nmi = s.nmi := rfl
@[simp] theorem setFprAt_inputs (s : State) (r : Reg) (v : Word) : (s.setFprAt r v).inputs = s.inputs := rfl
@[simp] theorem setFprAt_tick (s : State) (r : Reg) (v : Word) : (s.setFprAt r v).tick = s.tick := rfl
@[simp] theorem setFprAt_params (s : State) (r : Reg) (v : Word) : (s.setFprAt r v).params = s.params := rfl

/-! `State.setFprS`: only `fpr`. -/

@[simp] theorem setFprS_gpr (s : State) (r : Reg) (v : BitVec 32) : (s.setFprS r v).gpr = s.gpr := by unfold State.setFprS; split <;> (try split) <;> rfl
@[simp] theorem setFprS_hi (s : State) (r : Reg) (v : BitVec 32) : (s.setFprS r v).hi = s.hi := by unfold State.setFprS; split <;> (try split) <;> rfl
@[simp] theorem setFprS_lo (s : State) (r : Reg) (v : BitVec 32) : (s.setFprS r v).lo = s.lo := by unfold State.setFprS; split <;> (try split) <;> rfl
@[simp] theorem setFprS_pc (s : State) (r : Reg) (v : BitVec 32) : (s.setFprS r v).pc = s.pc := by unfold State.setFprS; split <;> (try split) <;> rfl
@[simp] theorem setFprS_nextPc (s : State) (r : Reg) (v : BitVec 32) : (s.setFprS r v).nextPc = s.nextPc := by unfold State.setFprS; split <;> (try split) <;> rfl
@[simp] theorem setFprS_inSlot (s : State) (r : Reg) (v : BitVec 32) : (s.setFprS r v).inSlot = s.inSlot := by unfold State.setFprS; split <;> (try split) <;> rfl
@[simp] theorem setFprS_llBit (s : State) (r : Reg) (v : BitVec 32) : (s.setFprS r v).llBit = s.llBit := by unfold State.setFprS; split <;> (try split) <;> rfl
@[simp] theorem setFprS_llAddr (s : State) (r : Reg) (v : BitVec 32) : (s.setFprS r v).llAddr = s.llAddr := by unfold State.setFprS; split <;> (try split) <;> rfl
@[simp] theorem setFprS_fcr31 (s : State) (r : Reg) (v : BitVec 32) : (s.setFprS r v).fcr31 = s.fcr31 := by unfold State.setFprS; split <;> (try split) <;> rfl
@[simp] theorem setFprS_cp0 (s : State) (r : Reg) (v : BitVec 32) : (s.setFprS r v).cp0 = s.cp0 := by unfold State.setFprS; split <;> (try split) <;> rfl
@[simp] theorem setFprS_tlb (s : State) (r : Reg) (v : BitVec 32) : (s.setFprS r v).tlb = s.tlb := by unfold State.setFprS; split <;> (try split) <;> rfl
@[simp] theorem setFprS_itlb (s : State) (r : Reg) (v : BitVec 32) : (s.setFprS r v).itlb = s.itlb := by unfold State.setFprS; split <;> (try split) <;> rfl
@[simp] theorem setFprS_mem (s : State) (r : Reg) (v : BitVec 32) : (s.setFprS r v).mem = s.mem := by unfold State.setFprS; split <;> (try split) <;> rfl
@[simp] theorem setFprS_nmi (s : State) (r : Reg) (v : BitVec 32) : (s.setFprS r v).nmi = s.nmi := by unfold State.setFprS; split <;> (try split) <;> rfl
@[simp] theorem setFprS_inputs (s : State) (r : Reg) (v : BitVec 32) : (s.setFprS r v).inputs = s.inputs := by unfold State.setFprS; split <;> (try split) <;> rfl
@[simp] theorem setFprS_tick (s : State) (r : Reg) (v : BitVec 32) : (s.setFprS r v).tick = s.tick := by unfold State.setFprS; split <;> (try split) <;> rfl
@[simp] theorem setFprS_params (s : State) (r : Reg) (v : BitVec 32) : (s.setFprS r v).params = s.params := by unfold State.setFprS; split <;> (try split) <;> rfl

/-! `advance`: the program counter and its branch record. -/

@[simp] theorem advance_gpr (s : State) : (advance s).gpr = s.gpr := rfl
@[simp] theorem advance_hi (s : State) : (advance s).hi = s.hi := rfl
@[simp] theorem advance_lo (s : State) : (advance s).lo = s.lo := rfl
@[simp] theorem advance_pc (s : State) : (advance s).pc = s.nextPc.getD (s.pc + 4) := rfl
@[simp] theorem advance_nextPc (s : State) : (advance s).nextPc = none := rfl
@[simp] theorem advance_inSlot (s : State) : (advance s).inSlot = false := rfl
@[simp] theorem advance_llBit (s : State) : (advance s).llBit = s.llBit := rfl
@[simp] theorem advance_llAddr (s : State) : (advance s).llAddr = s.llAddr := rfl
@[simp] theorem advance_fpr (s : State) : (advance s).fpr = s.fpr := rfl
@[simp] theorem advance_fcr31 (s : State) : (advance s).fcr31 = s.fcr31 := rfl
@[simp] theorem advance_cp0 (s : State) : (advance s).cp0 = s.cp0 := rfl
@[simp] theorem advance_tlb (s : State) : (advance s).tlb = s.tlb := rfl
@[simp] theorem advance_itlb (s : State) : (advance s).itlb = s.itlb := rfl
@[simp] theorem advance_mem (s : State) : (advance s).mem = s.mem := rfl
@[simp] theorem advance_nmi (s : State) : (advance s).nmi = s.nmi := rfl
@[simp] theorem advance_inputs (s : State) : (advance s).inputs = s.inputs := rfl
@[simp] theorem advance_tick (s : State) : (advance s).tick = s.tick := rfl
@[simp] theorem advance_params (s : State) : (advance s).params = s.params := rfl

/-! `takeException`: CP0, the program counter and its branch record. -/

@[simp] theorem takeException_gpr (e : Exc) (s : State) : (takeException e s).gpr = s.gpr := rfl
@[simp] theorem takeException_hi (e : Exc) (s : State) : (takeException e s).hi = s.hi := rfl
@[simp] theorem takeException_lo (e : Exc) (s : State) : (takeException e s).lo = s.lo := rfl
@[simp] theorem takeException_pc (e : Exc) (s : State) : (takeException e s).pc = excVector s.bev s.exl e := rfl
@[simp] theorem takeException_nextPc (e : Exc) (s : State) : (takeException e s).nextPc = none := rfl
@[simp] theorem takeException_inSlot (e : Exc) (s : State) : (takeException e s).inSlot = false := rfl
@[simp] theorem takeException_llBit (e : Exc) (s : State) : (takeException e s).llBit = s.llBit := rfl
@[simp] theorem takeException_llAddr (e : Exc) (s : State) : (takeException e s).llAddr = s.llAddr := rfl
@[simp] theorem takeException_fpr (e : Exc) (s : State) : (takeException e s).fpr = s.fpr := rfl
@[simp] theorem takeException_fcr31 (e : Exc) (s : State) : (takeException e s).fcr31 = s.fcr31 := rfl
@[simp] theorem takeException_tlb (e : Exc) (s : State) : (takeException e s).tlb = s.tlb := rfl
@[simp] theorem takeException_itlb (e : Exc) (s : State) : (takeException e s).itlb = s.itlb := rfl
@[simp] theorem takeException_mem (e : Exc) (s : State) : (takeException e s).mem = s.mem := rfl
@[simp] theorem takeException_nmi (e : Exc) (s : State) : (takeException e s).nmi = s.nmi := rfl
@[simp] theorem takeException_inputs (e : Exc) (s : State) : (takeException e s).inputs = s.inputs := rfl
@[simp] theorem takeException_tick (e : Exc) (s : State) : (takeException e s).tick = s.tick := rfl
@[simp] theorem takeException_params (e : Exc) (s : State) : (takeException e s).params = s.params := rfl

/-! `returnFromException`: CP0 Status, LLbit, the program counter and its branch record. -/

@[simp] theorem returnFromException_gpr (s : State) : (returnFromException s).gpr = s.gpr := by unfold returnFromException; split <;> rfl
@[simp] theorem returnFromException_hi (s : State) : (returnFromException s).hi = s.hi := by unfold returnFromException; split <;> rfl
@[simp] theorem returnFromException_lo (s : State) : (returnFromException s).lo = s.lo := by unfold returnFromException; split <;> rfl
@[simp] theorem returnFromException_nextPc (s : State) : (returnFromException s).nextPc = none := by unfold returnFromException; split <;> rfl
@[simp] theorem returnFromException_inSlot (s : State) : (returnFromException s).inSlot = false := by unfold returnFromException; split <;> rfl
@[simp] theorem returnFromException_llBit (s : State) : (returnFromException s).llBit = false := by unfold returnFromException; split <;> rfl
@[simp] theorem returnFromException_llAddr (s : State) : (returnFromException s).llAddr = s.llAddr := by unfold returnFromException; split <;> rfl
@[simp] theorem returnFromException_fpr (s : State) : (returnFromException s).fpr = s.fpr := by unfold returnFromException; split <;> rfl
@[simp] theorem returnFromException_fcr31 (s : State) : (returnFromException s).fcr31 = s.fcr31 := by unfold returnFromException; split <;> rfl
@[simp] theorem returnFromException_tlb (s : State) : (returnFromException s).tlb = s.tlb := by unfold returnFromException; split <;> rfl
@[simp] theorem returnFromException_itlb (s : State) : (returnFromException s).itlb = s.itlb := by unfold returnFromException; split <;> rfl
@[simp] theorem returnFromException_mem (s : State) : (returnFromException s).mem = s.mem := by unfold returnFromException; split <;> rfl
@[simp] theorem returnFromException_nmi (s : State) : (returnFromException s).nmi = s.nmi := by unfold returnFromException; split <;> rfl
@[simp] theorem returnFromException_inputs (s : State) : (returnFromException s).inputs = s.inputs := by unfold returnFromException; split <;> rfl
@[simp] theorem returnFromException_tick (s : State) : (returnFromException s).tick = s.tick := by unfold returnFromException; split <;> rfl
@[simp] theorem returnFromException_params (s : State) : (returnFromException s).params = s.params := by unfold returnFromException; split <;> rfl

/-! `takeNmi`: CP0, the program counter, its branch record, and the NMI itself. -/

@[simp] theorem takeNmi_gpr (s : State) : (takeNmi s).gpr = s.gpr := rfl
@[simp] theorem takeNmi_hi (s : State) : (takeNmi s).hi = s.hi := rfl
@[simp] theorem takeNmi_lo (s : State) : (takeNmi s).lo = s.lo := rfl
@[simp] theorem takeNmi_pc (s : State) : (takeNmi s).pc = resetVector := rfl
@[simp] theorem takeNmi_nextPc (s : State) : (takeNmi s).nextPc = none := rfl
@[simp] theorem takeNmi_inSlot (s : State) : (takeNmi s).inSlot = false := rfl
@[simp] theorem takeNmi_llBit (s : State) : (takeNmi s).llBit = s.llBit := rfl
@[simp] theorem takeNmi_llAddr (s : State) : (takeNmi s).llAddr = s.llAddr := rfl
@[simp] theorem takeNmi_fpr (s : State) : (takeNmi s).fpr = s.fpr := rfl
@[simp] theorem takeNmi_fcr31 (s : State) : (takeNmi s).fcr31 = s.fcr31 := rfl
@[simp] theorem takeNmi_tlb (s : State) : (takeNmi s).tlb = s.tlb := rfl
@[simp] theorem takeNmi_itlb (s : State) : (takeNmi s).itlb = s.itlb := rfl
@[simp] theorem takeNmi_mem (s : State) : (takeNmi s).mem = s.mem := rfl
@[simp] theorem takeNmi_nmi (s : State) : (takeNmi s).nmi = false := rfl
@[simp] theorem takeNmi_inputs (s : State) : (takeNmi s).inputs = s.inputs := rfl
@[simp] theorem takeNmi_tick (s : State) : (takeNmi s).tick = s.tick := rfl
@[simp] theorem takeNmi_params (s : State) : (takeNmi s).params = s.params := rfl

/-! `bump`: the counter of the free values. -/

@[simp] theorem bump_gpr (s : State) : (bump s).gpr = s.gpr := rfl
@[simp] theorem bump_hi (s : State) : (bump s).hi = s.hi := rfl
@[simp] theorem bump_lo (s : State) : (bump s).lo = s.lo := rfl
@[simp] theorem bump_pc (s : State) : (bump s).pc = s.pc := rfl
@[simp] theorem bump_nextPc (s : State) : (bump s).nextPc = s.nextPc := rfl
@[simp] theorem bump_inSlot (s : State) : (bump s).inSlot = s.inSlot := rfl
@[simp] theorem bump_llBit (s : State) : (bump s).llBit = s.llBit := rfl
@[simp] theorem bump_llAddr (s : State) : (bump s).llAddr = s.llAddr := rfl
@[simp] theorem bump_fpr (s : State) : (bump s).fpr = s.fpr := rfl
@[simp] theorem bump_fcr31 (s : State) : (bump s).fcr31 = s.fcr31 := rfl
@[simp] theorem bump_cp0 (s : State) : (bump s).cp0 = s.cp0 := rfl
@[simp] theorem bump_tlb (s : State) : (bump s).tlb = s.tlb := rfl
@[simp] theorem bump_itlb (s : State) : (bump s).itlb = s.itlb := rfl
@[simp] theorem bump_mem (s : State) : (bump s).mem = s.mem := rfl
@[simp] theorem bump_nmi (s : State) : (bump s).nmi = s.nmi := rfl
@[simp] theorem bump_inputs (s : State) : (bump s).inputs = s.inputs := rfl
@[simp] theorem bump_tick (s : State) : (bump s).tick = s.tick + 1 := rfl
@[simp] theorem bump_params (s : State) : (bump s).params = s.params := rfl

/-! `State.onChip`: the chip. -/

@[simp] theorem onChip_gpr (s : State) (f : Chip → Chip) : (s.onChip f).gpr = s.gpr := rfl
@[simp] theorem onChip_hi (s : State) (f : Chip → Chip) : (s.onChip f).hi = s.hi := rfl
@[simp] theorem onChip_lo (s : State) (f : Chip → Chip) : (s.onChip f).lo = s.lo := rfl
@[simp] theorem onChip_pc (s : State) (f : Chip → Chip) : (s.onChip f).pc = s.pc := rfl
@[simp] theorem onChip_nextPc (s : State) (f : Chip → Chip) : (s.onChip f).nextPc = s.nextPc := rfl
@[simp] theorem onChip_inSlot (s : State) (f : Chip → Chip) : (s.onChip f).inSlot = s.inSlot := rfl
@[simp] theorem onChip_llBit (s : State) (f : Chip → Chip) : (s.onChip f).llBit = s.llBit := rfl
@[simp] theorem onChip_llAddr (s : State) (f : Chip → Chip) : (s.onChip f).llAddr = s.llAddr := rfl
@[simp] theorem onChip_fpr (s : State) (f : Chip → Chip) : (s.onChip f).fpr = s.fpr := rfl
@[simp] theorem onChip_fcr31 (s : State) (f : Chip → Chip) : (s.onChip f).fcr31 = s.fcr31 := rfl
@[simp] theorem onChip_cp0 (s : State) (f : Chip → Chip) : (s.onChip f).cp0 = s.cp0 := rfl
@[simp] theorem onChip_tlb (s : State) (f : Chip → Chip) : (s.onChip f).tlb = s.tlb := rfl
@[simp] theorem onChip_itlb (s : State) (f : Chip → Chip) : (s.onChip f).itlb = s.itlb := rfl
@[simp] theorem onChip_mem (s : State) (f : Chip → Chip) : (s.onChip f).mem = { s.mem with chip := f s.mem.chip } := rfl
@[simp] theorem onChip_nmi (s : State) (f : Chip → Chip) : (s.onChip f).nmi = s.nmi := rfl
@[simp] theorem onChip_inputs (s : State) (f : Chip → Chip) : (s.onChip f).inputs = s.inputs := rfl
@[simp] theorem onChip_tick (s : State) (f : Chip → Chip) : (s.onChip f).tick = s.tick := rfl
@[simp] theorem onChip_params (s : State) (f : Chip → Chip) : (s.onChip f).params = s.params := rfl

/-! `finish`: CP0's counters, the DLL, and the counter of the free values. -/

@[simp] theorem finish_gpr (s t : State) : (finish s t).gpr = t.gpr := rfl
@[simp] theorem finish_hi (s t : State) : (finish s t).hi = t.hi := rfl
@[simp] theorem finish_lo (s t : State) : (finish s t).lo = t.lo := rfl
@[simp] theorem finish_pc (s t : State) : (finish s t).pc = t.pc := rfl
@[simp] theorem finish_nextPc (s t : State) : (finish s t).nextPc = t.nextPc := rfl
@[simp] theorem finish_inSlot (s t : State) : (finish s t).inSlot = t.inSlot := rfl
@[simp] theorem finish_llBit (s t : State) : (finish s t).llBit = t.llBit := rfl
@[simp] theorem finish_llAddr (s t : State) : (finish s t).llAddr = t.llAddr := rfl
@[simp] theorem finish_fpr (s t : State) : (finish s t).fpr = t.fpr := rfl
@[simp] theorem finish_fcr31 (s t : State) : (finish s t).fcr31 = t.fcr31 := rfl
@[simp] theorem finish_tlb (s t : State) : (finish s t).tlb = t.tlb := rfl
@[simp] theorem finish_itlb (s t : State) : (finish s t).itlb = t.itlb := rfl
@[simp] theorem finish_nmi (s t : State) : (finish s t).nmi = t.nmi := rfl
@[simp] theorem finish_inputs (s t : State) : (finish s t).inputs = t.inputs := rfl
@[simp] theorem finish_params (s t : State) : (finish s t).params = t.params := rfl
@[simp] theorem finish_tick (s t : State) : (finish s t).tick = t.tick + 1 := rfl
@[simp] theorem finish_ddr (s t : State) : (finish s t).mem.ddr = t.mem.ddr := rfl
@[simp] theorem finish_rom (s t : State) : (finish s t).mem.rom = t.mem.rom := rfl

/-! Reads of a register after a write of one. -/

theorem setReg_ne (s : State) {r : Reg} (h : r ≠ 0) (v : Word) :
    s.setReg r v = { s with gpr := s.gpr.set r.toNat v r.isLt } := if_neg h

theorem reg_ne (s : State) {r : Reg} (h : r ≠ 0) : s.reg r = s.gpr[r.toNat]'r.isLt := if_neg h

theorem reg_setReg (s : State) (r q : Reg) (v : Word) :
    (s.setReg r v).reg q = if q = r ∧ r ≠ 0 then v else s.reg q := by
  by_cases hr : r = 0
  · subst hr; simp [State.setReg]
  · rw [setReg_ne s hr]
    by_cases hq : q = r
    · subst hq; rw [reg_ne _ hr, if_pos ⟨rfl, hr⟩]; simp
    · rw [if_neg fun h => hq h.1]
      have h : r.toNat ≠ q.toNat := fun h => hq (BitVec.eq_of_toNat_eq h).symm
      by_cases h0 : q = 0
      · subst h0; rfl
      · rw [reg_ne _ h0, reg_ne _ h0]; simp [h]

@[simp] theorem reg_zero (s : State) : s.reg 0 = 0 := rfl

@[simp] theorem reg_advance (s : State) (r : Reg) : (advance s).reg r = s.reg r := rfl

@[simp] theorem reg_takeException (e : Exc) (s : State) (r : Reg) : (takeException e s).reg r = s.reg r := rfl

theorem setReg_zero (s : State) (v : Word) : s.setReg 0 v = s := by simp [State.setReg]

theorem fprAt_setFprAt (s : State) (r q : Reg) (v : Word) :
    (s.setFprAt r v).fprAt q = if q = r then v else s.fprAt q := by
  unfold State.setFprAt State.fprAt
  by_cases hq : q = r
  · subst hq; simp
  · have : r.toNat ≠ q.toNat := fun h => hq (BitVec.eq_of_toNat_eq h).symm
    simp [hq, this]

end Sys2Proof.Machine
end

