-- ==== Sys2Proof/Laws/Ops.lean ====
section
/-! SUPPORT. For each shared operation, one lemma that says once everything it can do when it answers a
next state; a proof about an instruction cites these and does not unfold the operation. -/

namespace Sys2Proof.Machine

/-- Every next state the outcome gives has the property. -/
def NextIs (P : State → Prop) (r : Res) : Prop := ∀ t, r = .next t → P t

theorem nextIs_next {P : State → Prop} {t : State} : NextIs P (.next t) ↔ P t :=
  ⟨fun h => h t rfl, fun h _ e => by cases e; exact h⟩

theorem nextIs_fault {P : State → Prop} (f : Fault) : NextIs P (.fault f) := fun _ e => nomatch e

theorem nextIs_refused {P : State → Prop} (f : Refusal) : NextIs P (.refused f) := fun _ e => nomatch e

theorem nextIs_raise {P : State → Prop} {e : Exc} {s : State} :
    NextIs P (raise e s) ↔ P (takeException e s) := nextIs_next

theorem nextIs_writeNext {P : State → Prop} {r : Reg} {v : Word} {s : State} :
    NextIs P (writeNext r v s) ↔ P (advance (s.setReg r v)) := nextIs_next

/-- A CP0 instruction: its own outcome, or CoprocessorUnusable (60_exceptions.md R871). -/
theorem nextIs_withCp0 {P : State → Prop} {s : State} {r : Res}
    (h : s.cp0Usable = true → NextIs P r) (hx : s.cp0Usable = false → P (takeException (.coprocessor 0) s)) :
    NextIs P (withCp0 s r) := by
  unfold withCp0
  split
  · exact h ‹_›
  · exact nextIs_raise.2 (hx (Bool.eq_false_iff.2 ‹_›))

/-- A CP1 instruction: its own outcome, or CoprocessorUnusable (47_fpu.md R700). -/
theorem nextIs_withCp1 {P : State → Prop} {s : State} {r : Res}
    (h : s.cu 1 = true → NextIs P r) (hx : s.cu 1 = false → P (takeException (.coprocessor 1) s)) :
    NextIs P (withCp1 s r) := by
  unfold withCp1
  split
  · exact h ‹_›
  · exact nextIs_raise.2 (hx (Bool.eq_false_iff.2 ‹_›))

theorem nextIs_withDouble {P : State → Prop} {s : State} {rs : List Reg} {r : Res}
    (h : rs.all s.doubleOk = true → NextIs P r) : NextIs P (withDouble s rs r) := by
  unfold withDouble
  split
  · exact h ‹_›
  · exact nextIs_fault _

/-- A memory operation: what follows it, or its exception (40_load_store.md R401). -/
theorem nextIs_afterMem {α : Type} {P : State → Prop} {s : State} {r : MemRes α} {k : α → State → Res}
    (h : ∀ a m, r = .ok a m → NextIs P (k a { s with mem := m }))
    (hx : ∀ e m, r = .exc e m → P (takeException e { s with mem := m })) : NextIs P (afterMem s r k) := by
  unfold afterMem
  cases r with
  | ok a m => exact h a m rfl
  | exc e m => exact nextIs_raise.2 (hx e m rfl)
  | fault f => exact nextIs_fault _

/-- A branch or jump outside a delay slot (43_branch_jump.md R550, R551); in one it stops. -/
theorem nextIs_branch {P : State → Prop} {taken likely : Bool} {target : Word} {s : State}
    (h : s.inSlot = false →
      P (if taken then { s with pc := s.pc + 4, nextPc := some target, inSlot := true }
         else if likely then { s with pc := s.pc + 8, nextPc := none, inSlot := false }
         else { s with pc := s.pc + 4, nextPc := none, inSlot := true })) :
    NextIs P (branch taken likely target s) := by
  unfold branch
  split
  · exact nextIs_fault _
  · have h1 := h (Bool.eq_false_iff.2 ‹_›)
    cases taken <;> cases likely <;> exact nextIs_next.2 h1

/-- Overflow arithmetic: the result written, or Overflow taken (41_alu.md R452). -/
theorem nextIs_trapOverflow {P : State → Prop} {x : Option Word} {r : Reg} {s : State}
    (h : ∀ v, x = some v → P (advance (s.setReg r v))) (hx : x = none → P (takeException .overflow s)) :
    NextIs P (trapOverflow x r s) := by
  unfold trapOverflow
  cases x with
  | some v => exact nextIs_writeNext.2 (h v rfl)
  | none => exact nextIs_raise.2 (hx rfl)

/-- A conditional trap (45_special_trap.md R633). -/
theorem nextIs_trapIf {P : State → Prop} {c : Bool} {s : State}
    (h : c = false → P (advance s)) (hx : c = true → P (takeException .trap s)) :
    NextIs P (trapIf c s) := by
  unfold trapIf
  cases c with
  | true => exact nextIs_raise.2 (hx rfl)
  | false => exact nextIs_next.2 (h rfl)

/-- A fill whose data no instruction waits for changes at most the memory system (20_memory.md R302). -/
theorem quietFill_ok {s s1 : State} {va : Word} {pa : PAddr} (h : quietFill s va pa = .ok s1) :
    s1 = s ∨ ∃ w m, ensureD s.ctx .load va pa s.mem = .ok w m ∧ s1 = { s with mem := m } := by
  unfold quietFill at h
  split at h
  · cases h; exact .inr ⟨_, _, ‹_›, rfl⟩
  · cases h; exact .inl rfl
  · cases h
  · cases h; exact .inl rfl

/-- A load to register 0 changes at most the memory system (40_load_store.md R403). -/
theorem nextIs_prefetch {P : State → Prop} {al : Bool} {va : Word} {s : State}
    (h : P (advance s))
    (hf : ∀ pa w m, ensureD s.ctx .load va pa s.mem = .ok w m → P (advance { s with mem := m })) :
    NextIs P (prefetch al va s) := by
  unfold prefetch
  split
  · split
    · split
      · exact nextIs_fault _
      · unfold prefetchFill
        split
        · rename_i he
          refine nextIs_next.2 ?_
          split at he
          · obtain rfl | ⟨w, m, hw, rfl⟩ := quietFill_ok he
            · exact h
            · exact hf _ _ _ hw
          · cases he; exact h
        · exact nextIs_fault _
    · exact nextIs_next.2 h
  · exact nextIs_next.2 h
  · exact nextIs_fault _

/-- SC and SCD: done with 1, not done with 0, or an exception of the checks, of Watch or of the store
(40_load_store.md R431, R432). -/
theorem nextIs_storeConditional {P : State → Prop} {base rt : Reg} {offset : Imm16} {n : Nat} {s : State}
    (h : ∀ pa c m, translate s .store (alignedTo n (s.ea base offset)) (s.ea base offset) = .ok pa c →
      writeAttr s.ctx c (s.ea base offset) pa n ((s.reg rt).setWidth 256) s.mem = .ok () m →
      P (advance (({ s with mem := m, llBit := false } : State).setReg rt 1)))
    (hf : P (advance (({ s with llBit := false } : State).setReg rt 0)))
    (hx : ∀ e, P (takeException e s)) (hm : ∀ pa c e m,
      writeAttr s.ctx c (s.ea base offset) pa n ((s.reg rt).setWidth 256) s.mem = .exc e m →
      P (takeException e { s with mem := m })) : NextIs P (storeConditional base rt offset n s) := by
  unfold storeConditional
  dsimp only
  split
  · split
    · split
      · exact nextIs_raise.2 (hx _)
      · refine nextIs_afterMem (fun _ m hw => nextIs_writeNext.2 ?_) fun e m hw => hm _ _ e m hw
        exact h _ _ m ‹_› hw
    · exact nextIs_writeNext.2 hf
  · exact nextIs_raise.2 (hx _)
  · exact nextIs_fault _

/-- The end of a floating operation: the exception with Causes written, or the result with Flags gathered
(47_fpu.md R703, R711). -/
theorem nextIs_fpFinish {P : State → Prop} {s : State} {o : FpOut} {w : State → State}
    (h : P (advance (w { s with fcr31 := fcrAddFlags (fcrSetCauses s.fcr31 o.causes) o.causes })))
    (hx : P (takeException .fpe { s with fcr31 := fcrSetCauses s.fcr31 o.causes })) :
    NextIs P (fpFinish s o w) := by
  unfold fpFinish
  dsimp only
  split
  · exact nextIs_raise.2 hx
  · exact nextIs_next.2 h

/-- A TLB write: one entry, with a legal mask and no overlap (46_cp0_privileged.md R671). -/
theorem nextIs_writeTlb {P : State → Prop} {i : BitVec 6} {s : State}
    (h : legalMask (entryOfCp0 s).mask = true →
      (∀ j : Fin 64, j.val ≠ i.toNat → overlaps (entryOfCp0 s) s.tlb[j] = false) →
      P (advance { s with tlb := s.tlb.set i.toNat (entryOfCp0 s) i.isLt })) :
    NextIs P (writeTlb i s) := by
  unfold writeTlb
  dsimp only
  split
  · exact nextIs_fault _
  · split
    · exact nextIs_fault _
    · rename_i h1 h2
      refine nextIs_next.2 (h (by simpa using h1) fun j hj => ?_)
      rw [List.any_eq_true] at h2
      cases ho : overlaps (entryOfCp0 s) s.tlb[j] with
      | false => rfl
      | true => exact absurd ⟨j, List.mem_finRange j, by rw [ho]; simp [hj]⟩ h2

/-- A write of a CP0 register: the registers of the write rule, and at most an empty ITLB
(11_cp0_registers.md R213). -/
theorem cp0Write_ok {s s1 : State} {n : Reg} {v : Word} (h : s.cp0Write n v = .ok s1) :
    s1 = { s with cp0 := writeCp0 s.params s.cp0 n v }
      ∨ s1 = { s with cp0 := writeCp0 s.params s.cp0 n v, itlb := [] } := by
  unfold State.cp0Write at h
  dsimp only at h
  split at h
  · split at h
    · cases h
    · split at h
      · cases h; exact .inr rfl
      · cases h; exact .inl rfl
  · cases h; exact .inl rfl

/-- What the DDR2 controller can do in a step: stay, not started or ready; lock; or wait once more
(61_platform.md R922). -/
theorem tickDdr_cases (tick : Nat) (c : Chip) :
    ((c.ddrStarted = false ∨ c.ddrReady = true) ∧ tickDdr tick c = c)
      ∨ c.ddrStarted = true ∧ c.ddrReady = false
        ∧ ((∃ r15, tickDdr tick c = { c with ddrReady := true
                                             ddrRegs := (c.setUnlocked false).ddrRegs.set 15 r15 })
          ∨ c.ddrWait < (draw 256 .ddrStall 0 0).toNat ∧ tickDdr tick c = { c with ddrWait := c.ddrWait + 1 }) := by
  unfold tickDdr ddrLocks
  cases hs : c.ddrStarted
  · exact .inl ⟨.inl rfl, by simp⟩
  · cases hr : c.ddrReady
    · refine .inr ⟨rfl, rfl, ?_⟩
      split
      · exact .inl ⟨_, by rw [← hs]; rfl⟩
      · rename_i hl
        exact .inr ⟨by simp at hl; exact hl.2, rfl⟩
    · exact .inl ⟨.inr rfl, by simp⟩

/-- Waking changes at most Chip_Config0 (61_platform.md R976). -/
theorem wake_cases (c : Chip) :
    c.lines = 0 ∧ c.wake = c ∨ c.lines ≠ 0 ∧ c.wake = c.setIo 32 (merge 7 (c.io 32) 1) := by
  unfold Chip.wake
  split
  · exact .inr ⟨bne_iff_ne.mp ‹_›, rfl⟩
  · exact .inl ⟨by rename_i h; simpa using h, rfl⟩

/-- What a step in stand-by changes: the chip's wake-up and DDR2 controller, and the counter of the free
values (61_platform.md R922, R976). -/
theorem standbyStep_eq (s : State) : standbyStep s =
    { s with mem := { s.mem with chip := tickDdr s.tick s.mem.chip.wake }, tick := s.tick + 1 } := rfl

/-- What a step is made of: the events, then stand-by or the core (60_exceptions.md R836). -/
theorem step_next {s t : State} (h : step s = .next t) :
    ∃ s1, environment s = .ok s1 ∧
      (standby s1 = true ∧ t = standbyStep s1
        ∨ standby s1 = false ∧ ∃ u, coreStep s1 = .next u ∧ t = finish s1 u) := by
  unfold step at h
  cases he : environment s with
  | error f => rw [he] at h; cases h
  | ok s1 =>
    rw [he] at h
    refine ⟨s1, rfl, ?_⟩
    dsimp only at h
    cases hs : standby s1 with
    | true => rw [hs] at h; cases h; exact .inl ⟨rfl, rfl⟩
    | false =>
      rw [hs] at h
      refine .inr ⟨rfl, ?_⟩
      unfold finished at h
      cases hc : coreStep s1 with
      | next u => rw [hc] at h; cases h; exact ⟨u, rfl, rfl⟩
      | fault f => rw [hc] at h; cases h
      | refused f => rw [hc] at h; cases h

/-- What the running core does in a step: an NMI, an interrupt, a fetch exception, an instruction, or a
word that is none. -/
theorem coreStep_next {s t : State} (h : coreStep s = .next t) :
    s.nmi = true ∧ t = takeNmi s
      ∨ interruptPending s = true ∧ t = takeException .int s
      ∨ fetch s = .taken t
      ∨ ∃ w s1, fetch s = .word w s1 ∧
          ((∃ i, decode w = .ok i ∧ exec i s1 = .next t)
            ∨ ∃ e, decode w = .error e ∧ rejectWord e s1 = .next t) := by
  unfold coreStep at h
  split at h
  · cases h
  · split at h
    · cases h; exact .inl ⟨‹_›, rfl⟩
    · split at h
      · cases h; exact .inr (.inl ⟨‹_›, rfl⟩)
      · unfold runNext at h
        refine .inr (.inr ?_)
        cases hf : fetch s with
        | taken s1 => rw [hf] at h; cases h; exact .inl rfl
        | fault f => rw [hf] at h; cases h
        | word w s1 =>
          rw [hf] at h
          refine .inr ⟨w, s1, rfl, ?_⟩
          dsimp only at h
          unfold runWord at h
          cases hd : decode w with
          | ok i => rw [hd] at h; exact .inl ⟨i, rfl, h⟩
          | error e => rw [hd] at h; exact .inr ⟨e, rfl, h⟩

/-- What the fetch can leave: the ITLB and the memory system changed, and its exception taken if it has one
(20_memory.md R284 to R287). -/
theorem fetch_word {s s1 : State} {w : BitVec 32} (h : fetch s = .word w s1) :
    ∃ pa c m, translateFetch s s.pc = (.ok pa c, s1.itlb) ∧ fetchAttr s.ctx c s.pc pa s.mem = .ok w m
      ∧ s1 = bump { s with itlb := s1.itlb, mem := m } := by
  unfold fetch at h
  split at h
  · rename_i pa c itlb ht
    split at h
    · rename_i w' m hm
      cases h
      exact ⟨pa, c, m, ht, hm, rfl⟩
    · cases h
    · cases h
  · cases h
  · cases h

theorem fetch_taken {s t : State} (h : fetch s = .taken t) :
    ∃ e itlb m, (translateFetch s s.pc).2 = itlb ∧ t = takeException e { s with itlb := itlb, mem := m }
      ∧ (m = s.mem ∨ ∃ pa c, fetchAttr s.ctx c s.pc pa s.mem = .exc e m) := by
  unfold fetch at h
  split at h
  · rename_i pa c itlb ht
    split at h
    · cases h
    · rename_i e m hm
      cases h
      exact ⟨e, itlb, m, by rw [ht], rfl, .inr ⟨pa, c, hm⟩⟩
    · cases h
  · rename_i e itlb ht
    cases h
    exact ⟨e, itlb, s.mem, by rw [ht], rfl, .inl rfl⟩
  · cases h


/-- A speculative fetch changes at most the ITLB and the memory system (70_reset_and_hazards.md R1015). -/
theorem specFetch_ok {s s1 : State} {va : Word} (h : specFetch va s = .ok s1) :
    s1 = s ∨ ∃ pa c itlb m, translateFetch s va = (.ok pa c, itlb)
      ∧ ((∃ w, fetchAttr s.ctx c va pa s.mem = .ok w m) ∨ ∃ e, fetchAttr s.ctx c va pa s.mem = .exc e m)
      ∧ s1 = { s with mem := m, itlb := itlb } := by
  unfold specFetch at h
  split at h
  · rename_i pa c itlb ht
    split at h
    · cases h; exact .inr ⟨pa, c, itlb, _, ht, .inl ⟨_, ‹_›⟩, rfl⟩
    · cases h; exact .inr ⟨pa, c, itlb, _, ht, .inr ⟨_, ‹_›⟩, rfl⟩
    · cases h
    · cases h; exact .inl rfl
  · cases h; exact .inl rfl

/-- A speculative load changes at most the memory system (20_memory.md R302). -/
theorem specLoad_ok {s s1 : State} {va : Word} (h : specLoad va s = .ok s1) :
    s1 = s ∨ ∃ pa w m, ensureD s.ctx .load va pa s.mem = .ok w m ∧ s1 = { s with mem := m } := by
  unfold specLoad at h
  split at h
  · split at h
    · obtain rfl | ⟨w, m, hw, rfl⟩ := quietFill_ok h
      · exact .inl rfl
      · exact .inr ⟨_, w, m, hw, rfl⟩
    · cases h; exact .inl rfl
  · cases h; exact .inl rfl

/-- A mapped fetch adds at most one page to the ITLB (20_memory.md R284). -/
theorem fetchMapped_itlb (s : State) (va : Word) :
    (fetchMapped s va).2 = s.itlb ∨ ∃ i : Fin 64, (fetchMapped s va).2 = itlbFill s (itlbOf s.tlb[i] va) := by
  unfold fetchMapped
  split
  · exact .inl rfl
  · split
    · exact .inl rfl
    · split
      · exact .inl rfl
      · exact .inr ⟨_, rfl⟩
      · exact .inl rfl

/-- The offset in a page is the virtual address's (20_memory.md R277). -/
theorem pageAddr_low (m : BitVec 12) (pfn : BitVec 28) (va : Word) :
    (pageAddr m pfn va).extractLsb' 0 3 = va.extractLsb' 0 3 := by
  have hx : ∀ i, i < 3 → (m ++ (0xFFF : BitVec 12) |>.setWidth 40 : PAddr).getLsbD i = true := by
    intro i hi
    have h : i = 0 ∨ i = 1 ∨ i = 2 := by omega
    rcases h with rfl | rfl | rfl <;> simp only [BitVec.getLsbD_setWidth, BitVec.getLsbD_append] <;> rfl
  refine BitVec.eq_of_getLsbD_eq fun i hi => ?_
  simp only [pageAddr, merge, BitVec.getLsbD_extractLsb', BitVec.getLsbD_or, BitVec.getLsbD_and,
    BitVec.getLsbD_not, hi, Nat.zero_add, hx i hi]
  simp
  omega

/-- A direct segment keeps the low bits (20_memory.md R271 to R273). -/
theorem segment_low {k0 : BitVec 3} {m : Mode} {va : Word} {pa : PAddr} {c : BitVec 3}
    (h : segment k0 m va = some (.direct pa c)) : pa.extractLsb' 0 3 = va.extractLsb' 0 3 := by
  cases m
  · simp only [segment, kernelSegment] at h
    split at h
    all_goals (try split at h)
    all_goals (try split at h)
    all_goals (try simp at h)
    all_goals (obtain ⟨rfl, -⟩ := h)
    all_goals (ext i hi; simp [show i < 40 by omega, show i < 29 by omega])
  · simp only [segment, supervisorSegment] at h
    split at h <;> (try split at h) <;> simp at h
  · simp only [segment, userSegment] at h
    split at h <;> simp at h

/-- The byte named is the one translated. -/
theorem sameDouble_self {pa : PAddr} {va : Word} (h : pa.extractLsb' 0 3 = va.extractLsb' 0 3) :
    sameDouble pa va = pa := by
  unfold sameDouble
  rw [← h, BitVec.extractLsb'_append_extractLsb'_eq_extractLsb' (by rfl)]
  exact BitVec.extractLsb'_eq_self

/-- A page gives an address only where it is valid, writable for a store and executable for a fetch, in
either order of the checks (20_memory.md R278). -/
theorem pageOutcome_ok {first : Bool} {acc : Access} {mask : BitVec 12} {p : TlbPage} {va : Word} {pa : PAddr}
    {c : BitVec 3} (h : pageOutcome first acc mask p va = .ok pa c) :
    p.v = true ∧ pa = pageAddr mask p.pfn va ∧ c = p.c
      ∧ (acc = .store → p.d = true) ∧ (acc = .fetch → p.e = false) := by
  unfold pageOutcome at h
  obtain ⟨_, _, d, v, e⟩ := p
  cases acc <;> cases d <;> cases v <;> cases e <;> cases first <;> cases h <;> simp

/-- A translated address has the doubleword offset of the virtual one. -/
theorem translate_low {s : State} {acc : Access} {al : Bool} {va : Word} {pa : PAddr} {c : BitVec 3}
    (h : translate s acc al va = .ok pa c) : pa.extractLsb' 0 3 = va.extractLsb' 0 3 := by
  unfold translate at h
  split at h
  · cases h
  · split at h
    · cases h
    · split at h
      · cases h
      · cases h; exact segment_low ‹_›
      · unfold jtlb at h
        split at h
        · cases h
        · split at h
          · cases h
          · rw [(pageOutcome_ok h).2.1]; exact pageAddr_low _ _ _
          · cases h

/-- The access at the translated address itself, for LL, SC and every aligned access. -/
theorem translateData_same {s : State} {st al : Bool} {va : Word} {pa : PAddr} {c : BitVec 3}
    (h : translateData s st al va = .ok pa c) : sameDouble pa va = pa := by
  refine sameDouble_self ?_
  unfold translateData at h
  split at h
  · split at h
    · cases h
    · rename_i h1 _; cases h; exact translate_low h1
  · rename_i h1; exact translate_low h

/-- HI and LO written. -/
theorem nextIs_writeHiLo {P : State → Prop} {p : Word × Word} {s : State} :
    NextIs P (writeHiLo p s) ↔ P (advance { s with hi := p.1, lo := p.2 }) := nextIs_next

end Sys2Proof.Machine
end

