-- ==== Sys2Proof/Laws/Claims.lean ====
section
/-! SUPPORT. From the shared operations to the terms claims are stated in: when a meaning is one of these
operations, what it does in those terms. -/

namespace Sys2Proof.Machine

theorem movesOn_advance (s t : State) (hp : t.pc = s.pc) (hn : t.nextPc = s.nextPc) :
    MovesOn s (advance t) := by simp [MovesOn, hp, hn]

theorem onlyPc_advance (s : State) : OnlyPc s (advance s) := ⟨movesOn_advance _ _ rfl rfl, rfl⟩

theorem does_advance {i : Instr} {s : State} (h : exec i s = .next (advance s)) : Does i s OnlyPc :=
  ⟨_, h, onlyPc_advance s⟩

theorem onlyGpr_setReg (s : State) (r : Reg) (v : Word) : OnlyGpr r v s (advance (s.setReg r v)) := by
  refine ⟨movesOn_advance _ _ (by simp) (by simp), ?_, fun q hq => ?_, ?_⟩
  · rw [reg_advance, reg_setReg]
    by_cases h : r = 0
    · subst h; rfl
    · rw [if_pos ⟨rfl, h⟩, if_neg h]
  · rw [reg_advance, reg_setReg, if_neg fun h => hq h.1]
  · unfold State.setReg; split <;> rfl

/-- A meaning that writes one register. -/
theorem does_writeNext {i : Instr} {s : State} {r : Reg} {v v' : Word}
    (h : exec i s = writeNext r v s) (hv : v = v') : Does i s (OnlyGpr r v') :=
  ⟨_, h, hv ▸ onlyGpr_setReg s r v⟩

/-- A meaning that writes HI and LO. -/
theorem onlyHiLo_advance (s : State) (h l : Word) : OnlyHiLo h l s (advance { s with hi := h, lo := l }) :=
  ⟨movesOn_advance _ _ rfl rfl, rfl, rfl, rfl⟩

/-- A meaning that writes a 64-bit floating register and FCR31. -/
theorem onlyFprD_advance (s : State) (r : Reg) (v : Word) (f : BitVec 32) :
    OnlyFprD r v f s (advance (({ s with fcr31 := f } : State).setFprAt r v)) := by
  refine ⟨movesOn_advance _ _ rfl rfl, ?_, fun q hq => ?_, rfl, rfl⟩
  · exact (fprAt_setFprAt _ _ _ _).trans (if_pos rfl)
  · exact (fprAt_setFprAt _ _ _ _).trans (if_neg hq)

end Sys2Proof.Machine
end

