-- ==== Sys2Proof/Laws/Encode.lean ====
section
/-! SUPPORT. What each field of an encoded word reads back as: the lemmas a round-trip proof rewrites with. -/

namespace Sys2Proof

@[simp] theorem fOp_encR (op : BitVec 6) (rs rt rd sa : Reg) (fn : BitVec 6) : fOp (encR op rs rt rd sa fn) = op :=
  (BitVec.extractLsb'_append_eq_of_le (by decide)).trans
    ((BitVec.extractLsb'_append_eq_of_le (by decide)).trans
    ((BitVec.extractLsb'_append_eq_of_le (by decide)).trans
    ((BitVec.extractLsb'_append_eq_of_le (by decide)).trans
    ((BitVec.extractLsb'_append_eq_of_le (by decide)).trans
    (BitVec.extractLsb'_eq_self)))))

@[simp] theorem fRs_encR (op : BitVec 6) (rs rt rd sa : Reg) (fn : BitVec 6) : fRs (encR op rs rt rd sa fn) = rs :=
  (BitVec.extractLsb'_append_eq_of_le (by decide)).trans
    ((BitVec.extractLsb'_append_eq_of_le (by decide)).trans
    ((BitVec.extractLsb'_append_eq_of_le (by decide)).trans
    ((BitVec.extractLsb'_append_eq_of_le (by decide)).trans
    ((BitVec.extractLsb'_append_eq_of_add_le (by decide)).trans
    (BitVec.extractLsb'_eq_self)))))

@[simp] theorem fRt_encR (op : BitVec 6) (rs rt rd sa : Reg) (fn : BitVec 6) : fRt (encR op rs rt rd sa fn) = rt :=
  (BitVec.extractLsb'_append_eq_of_le (by decide)).trans
    ((BitVec.extractLsb'_append_eq_of_le (by decide)).trans
    ((BitVec.extractLsb'_append_eq_of_le (by decide)).trans
    ((BitVec.extractLsb'_append_eq_of_add_le (by decide)).trans
    (BitVec.extractLsb'_eq_self))))

@[simp] theorem fRd_encR (op : BitVec 6) (rs rt rd sa : Reg) (fn : BitVec 6) : fRd (encR op rs rt rd sa fn) = rd :=
  (BitVec.extractLsb'_append_eq_of_le (by decide)).trans
    ((BitVec.extractLsb'_append_eq_of_le (by decide)).trans
    ((BitVec.extractLsb'_append_eq_of_add_le (by decide)).trans
    (BitVec.extractLsb'_eq_self)))

@[simp] theorem fSa_encR (op : BitVec 6) (rs rt rd sa : Reg) (fn : BitVec 6) : fSa (encR op rs rt rd sa fn) = sa :=
  (BitVec.extractLsb'_append_eq_of_le (by decide)).trans
    ((BitVec.extractLsb'_append_eq_of_add_le (by decide)).trans
    (BitVec.extractLsb'_eq_self))

@[simp] theorem fFn_encR (op : BitVec 6) (rs rt rd sa : Reg) (fn : BitVec 6) : fFn (encR op rs rt rd sa fn) = fn :=
  (BitVec.extractLsb'_append_eq_of_add_le (by decide)).trans
    (BitVec.extractLsb'_eq_self)

@[simp] theorem fOp_encI (op : BitVec 6) (rs rt : Reg) (imm : Imm16) : fOp (encI op rs rt imm) = op :=
  (BitVec.extractLsb'_append_eq_of_le (by decide)).trans
    ((BitVec.extractLsb'_append_eq_of_le (by decide)).trans
    ((BitVec.extractLsb'_append_eq_of_le (by decide)).trans
    (BitVec.extractLsb'_eq_self)))

@[simp] theorem fRs_encI (op : BitVec 6) (rs rt : Reg) (imm : Imm16) : fRs (encI op rs rt imm) = rs :=
  (BitVec.extractLsb'_append_eq_of_le (by decide)).trans
    ((BitVec.extractLsb'_append_eq_of_le (by decide)).trans
    ((BitVec.extractLsb'_append_eq_of_add_le (by decide)).trans
    (BitVec.extractLsb'_eq_self)))

@[simp] theorem fRt_encI (op : BitVec 6) (rs rt : Reg) (imm : Imm16) : fRt (encI op rs rt imm) = rt :=
  (BitVec.extractLsb'_append_eq_of_le (by decide)).trans
    ((BitVec.extractLsb'_append_eq_of_add_le (by decide)).trans
    (BitVec.extractLsb'_eq_self))

@[simp] theorem fImm_encI (op : BitVec 6) (rs rt : Reg) (imm : Imm16) : fImm (encI op rs rt imm) = imm :=
  (BitVec.extractLsb'_append_eq_of_add_le (by decide)).trans
    (BitVec.extractLsb'_eq_self)

@[simp] theorem fOp_encJ (op : BitVec 6) (target : BitVec 26) : fOp (encJ op target) = op :=
  (BitVec.extractLsb'_append_eq_of_le (by decide)).trans
    (BitVec.extractLsb'_eq_self)

@[simp] theorem fTarget_encJ (op : BitVec 6) (target : BitVec 26) : fTarget (encJ op target) = target :=
  (BitVec.extractLsb'_append_eq_of_add_le (by decide)).trans
    (BitVec.extractLsb'_eq_self)

@[simp] theorem fOp_encCode (code : BitVec 20) (fn : BitVec 6) : fOp (encCode code fn) = 0 :=
  (BitVec.extractLsb'_append_eq_of_le (by decide)).trans
    ((BitVec.extractLsb'_append_eq_of_le (by decide)).trans
    (BitVec.extractLsb'_eq_self))

@[simp] theorem fCode20_encCode (code : BitVec 20) (fn : BitVec 6) : fCode20 (encCode code fn) = code :=
  (BitVec.extractLsb'_append_eq_of_le (by decide)).trans
    ((BitVec.extractLsb'_append_eq_of_add_le (by decide)).trans
    (BitVec.extractLsb'_eq_self))

@[simp] theorem fFn_encCode (code : BitVec 20) (fn : BitVec 6) : fFn (encCode code fn) = fn :=
  (BitVec.extractLsb'_append_eq_of_add_le (by decide)).trans
    (BitVec.extractLsb'_eq_self)

@[simp] theorem fOp_encTrap (rs rt : Reg) (code : BitVec 10) (fn : BitVec 6) : fOp (encTrap rs rt code fn) = 0 :=
  (BitVec.extractLsb'_append_eq_of_le (by decide)).trans
    ((BitVec.extractLsb'_append_eq_of_le (by decide)).trans
    ((BitVec.extractLsb'_append_eq_of_le (by decide)).trans
    ((BitVec.extractLsb'_append_eq_of_le (by decide)).trans
    (BitVec.extractLsb'_eq_self))))

@[simp] theorem fRs_encTrap (rs rt : Reg) (code : BitVec 10) (fn : BitVec 6) : fRs (encTrap rs rt code fn) = rs :=
  (BitVec.extractLsb'_append_eq_of_le (by decide)).trans
    ((BitVec.extractLsb'_append_eq_of_le (by decide)).trans
    ((BitVec.extractLsb'_append_eq_of_le (by decide)).trans
    ((BitVec.extractLsb'_append_eq_of_add_le (by decide)).trans
    (BitVec.extractLsb'_eq_self))))

@[simp] theorem fRt_encTrap (rs rt : Reg) (code : BitVec 10) (fn : BitVec 6) : fRt (encTrap rs rt code fn) = rt :=
  (BitVec.extractLsb'_append_eq_of_le (by decide)).trans
    ((BitVec.extractLsb'_append_eq_of_le (by decide)).trans
    ((BitVec.extractLsb'_append_eq_of_add_le (by decide)).trans
    (BitVec.extractLsb'_eq_self)))

@[simp] theorem fCode10_encTrap (rs rt : Reg) (code : BitVec 10) (fn : BitVec 6) : fCode10 (encTrap rs rt code fn) = code :=
  (BitVec.extractLsb'_append_eq_of_le (by decide)).trans
    ((BitVec.extractLsb'_append_eq_of_add_le (by decide)).trans
    (BitVec.extractLsb'_eq_self))

@[simp] theorem fFn_encTrap (rs rt : Reg) (code : BitVec 10) (fn : BitVec 6) : fFn (encTrap rs rt code fn) = fn :=
  (BitVec.extractLsb'_append_eq_of_add_le (by decide)).trans
    (BitVec.extractLsb'_eq_self)

/-- A word is made of its fields. -/
theorem encR_fields (w : BitVec 32) : encR (fOp w) (fRs w) (fRt w) (fRd w) (fSa w) (fFn w) = w := by
  unfold encR fOp fRs fRt fRd fSa fFn
  rw [BitVec.extractLsb'_append_extractLsb'_eq_extractLsb' (by rfl), BitVec.extractLsb'_append_extractLsb'_eq_extractLsb' (by rfl), BitVec.extractLsb'_append_extractLsb'_eq_extractLsb' (by rfl), BitVec.extractLsb'_append_extractLsb'_eq_extractLsb' (by rfl), BitVec.extractLsb'_append_extractLsb'_eq_extractLsb' (by rfl)]
  exact BitVec.extractLsb'_eq_self

/-- A word is made of its fields. -/
theorem encI_fields (w : BitVec 32) : encI (fOp w) (fRs w) (fRt w) (fImm w) = w := by
  unfold encI fOp fRs fRt fImm
  rw [BitVec.extractLsb'_append_extractLsb'_eq_extractLsb' (by rfl), BitVec.extractLsb'_append_extractLsb'_eq_extractLsb' (by rfl), BitVec.extractLsb'_append_extractLsb'_eq_extractLsb' (by rfl)]
  exact BitVec.extractLsb'_eq_self

/-- A word is made of its fields. -/
theorem encJ_fields (w : BitVec 32) : encJ (fOp w) (fTarget w) = w := by
  unfold encJ fOp fTarget
  rw [BitVec.extractLsb'_append_extractLsb'_eq_extractLsb' (by rfl)]
  exact BitVec.extractLsb'_eq_self

/-- A word is made of its fields. -/
theorem encCode_fields (w : BitVec 32) (h : fOp w = 0) : encCode (fCode20 w) (fFn w) = w := by
  unfold encCode
  rw [← h]
  unfold fCode20 fFn fOp
  rw [BitVec.extractLsb'_append_extractLsb'_eq_extractLsb' (by rfl), BitVec.extractLsb'_append_extractLsb'_eq_extractLsb' (by rfl)]
  exact BitVec.extractLsb'_eq_self

/-- A word is made of its fields. -/
theorem encTrap_fields (w : BitVec 32) (h : fOp w = 0) : encTrap (fRs w) (fRt w) (fCode10 w) (fFn w) = w := by
  unfold encTrap
  rw [← h]
  unfold fRs fRt fCode10 fFn fOp
  rw [BitVec.extractLsb'_append_extractLsb'_eq_extractLsb' (by rfl), BitVec.extractLsb'_append_extractLsb'_eq_extractLsb' (by rfl), BitVec.extractLsb'_append_extractLsb'_eq_extractLsb' (by rfl), BitVec.extractLsb'_append_extractLsb'_eq_extractLsb' (by rfl)]
  exact BitVec.extractLsb'_eq_self

end Sys2Proof
end

