-- ==== Sys2Proof/Laws/PerInstr.lean ====
section
/-! SUPPORT. Statements about every instruction, one lemma per constructor: the major opcode field of an
encoded instruction is the one of its row (30_encoding.md R360). -/

namespace Sys2Proof

/-- The major opcode of an instruction (30_encoding.md R360). -/
def majorOpcode : Instr → BitVec 6
  | .lb _ _ _ => 32
  | .lbu _ _ _ => 36
  | .lh _ _ _ => 33
  | .lhu _ _ _ => 37
  | .lw _ _ _ => 35
  | .lwu _ _ _ => 39
  | .ld _ _ _ => 55
  | .lwl _ _ _ => 34
  | .lwr _ _ _ => 38
  | .ldl _ _ _ => 26
  | .ldr _ _ _ => 27
  | .swl _ _ _ => 42
  | .swr _ _ _ => 46
  | .sdl _ _ _ => 44
  | .sdr _ _ _ => 45
  | .sb _ _ _ => 40
  | .sh _ _ _ => 41
  | .sw _ _ _ => 43
  | .sd _ _ _ => 63
  | .ll _ _ _ => 48
  | .lld _ _ _ => 52
  | .sc _ _ _ => 56
  | .scd _ _ _ => 60
  | .lwc1 _ _ _ => 49
  | .ldc1 _ _ _ => 53
  | .swc1 _ _ _ => 57
  | .sdc1 _ _ _ => 61
  | .sync => 0
  | .addi _ _ _ => 8
  | .daddi _ _ _ => 24
  | .addiu _ _ _ => 9
  | .daddiu _ _ _ => 25
  | .slti _ _ _ => 10
  | .sltiu _ _ _ => 11
  | .andi _ _ _ => 12
  | .ori _ _ _ => 13
  | .xori _ _ _ => 14
  | .lui _ _ => 15
  | .add _ _ _ => 0
  | .dadd _ _ _ => 0
  | .addu _ _ _ => 0
  | .daddu _ _ _ => 0
  | .sub _ _ _ => 0
  | .dsub _ _ _ => 0
  | .subu _ _ _ => 0
  | .dsubu _ _ _ => 0
  | .slt _ _ _ => 0
  | .sltu _ _ _ => 0
  | .and _ _ _ => 0
  | .or _ _ _ => 0
  | .xor _ _ _ => 0
  | .nor _ _ _ => 0
  | .movz _ _ _ => 0
  | .movn _ _ _ => 0
  | .mult _ _ => 0
  | .multu _ _ => 0
  | .dmult _ _ => 0
  | .dmultu _ _ => 0
  | .div _ _ => 0
  | .divu _ _ => 0
  | .ddiv _ _ => 0
  | .ddivu _ _ => 0
  | .mfhi _ => 0
  | .mthi _ => 0
  | .mflo _ => 0
  | .mtlo _ => 0
  | .multg _ _ _ => 28
  | .dmultg _ _ _ => 28
  | .multug _ _ _ => 28
  | .dmultug _ _ _ => 28
  | .divg _ _ _ => 28
  | .ddivg _ _ _ => 28
  | .divug _ _ _ => 28
  | .ddivug _ _ _ => 28
  | .modg _ _ _ => 28
  | .dmodg _ _ _ => 28
  | .modug _ _ _ => 28
  | .dmodug _ _ _ => 28
  | .j _ => 2
  | .jal _ => 3
  | .jr _ => 0
  | .jalr _ _ => 0
  | .beq _ _ _ => 4
  | .bne _ _ _ => 5
  | .beql _ _ _ => 20
  | .bnel _ _ _ => 21
  | .blez _ _ => 6
  | .bgtz _ _ => 7
  | .blezl _ _ => 22
  | .bgtzl _ _ => 23
  | .bltz _ _ => 1
  | .bgez _ _ => 1
  | .bltzal _ _ => 1
  | .bgezal _ _ => 1
  | .bltzl _ _ => 1
  | .bgezl _ _ => 1
  | .bltzall _ _ => 1
  | .bgezall _ _ => 1
  | .sll _ _ _ => 0
  | .srl _ _ _ => 0
  | .sra _ _ _ => 0
  | .dsll _ _ _ => 0
  | .dsrl _ _ _ => 0
  | .dsra _ _ _ => 0
  | .dsll32 _ _ _ => 0
  | .dsrl32 _ _ _ => 0
  | .dsra32 _ _ _ => 0
  | .sllv _ _ _ => 0
  | .srlv _ _ _ => 0
  | .srav _ _ _ => 0
  | .dsllv _ _ _ => 0
  | .dsrlv _ _ _ => 0
  | .dsrav _ _ _ => 0
  | .syscall _ => 0
  | .brk _ => 0
  | .tge _ _ _ => 0
  | .tgeu _ _ _ => 0
  | .tlt _ _ _ => 0
  | .tltu _ _ _ => 0
  | .teq _ _ _ => 0
  | .tne _ _ _ => 0
  | .tgei _ _ => 1
  | .tgeiu _ _ => 1
  | .tlti _ _ => 1
  | .tltiu _ _ => 1
  | .teqi _ _ => 1
  | .tnei _ _ => 1
  | .mfc0 _ _ => 16
  | .dmfc0 _ _ => 16
  | .mtc0 _ _ => 16
  | .dmtc0 _ _ => 16
  | .tlbp => 16
  | .tlbr => 16
  | .tlbwi => 16
  | .tlbwr => 16
  | .eret => 16
  | .cache _ _ _ => 47
  | .addS _ _ _ => 17
  | .addD _ _ _ => 17
  | .addPs _ _ _ => 17
  | .subS _ _ _ => 17
  | .subD _ _ _ => 17
  | .subPs _ _ _ => 17
  | .mulS _ _ _ => 17
  | .mulD _ _ _ => 17
  | .mulPs _ _ _ => 17
  | .divS _ _ _ => 17
  | .divD _ _ _ => 17
  | .sqrtS _ _ => 17
  | .sqrtD _ _ => 17
  | .absS _ _ => 17
  | .absD _ _ => 17
  | .absPs _ _ => 17
  | .movS _ _ => 17
  | .movD _ _ => 17
  | .movPs _ _ => 17
  | .negS _ _ => 17
  | .negD _ _ => 17
  | .negPs _ _ => 17
  | .roundLS _ _ => 17
  | .roundLD _ _ => 17
  | .truncLS _ _ => 17
  | .truncLD _ _ => 17
  | .ceilLS _ _ => 17
  | .ceilLD _ _ => 17
  | .floorLS _ _ => 17
  | .floorLD _ _ => 17
  | .roundWS _ _ => 17
  | .roundWD _ _ => 17
  | .truncWS _ _ => 17
  | .truncWD _ _ => 17
  | .ceilWS _ _ => 17
  | .ceilWD _ _ => 17
  | .floorWS _ _ => 17
  | .floorWD _ _ => 17
  | .cvtWS _ _ => 17
  | .cvtWD _ _ => 17
  | .cvtLS _ _ => 17
  | .cvtLD _ _ => 17
  | .cvtSD _ _ => 17
  | .cvtSW _ _ => 17
  | .cvtSL _ _ => 17
  | .cvtDS _ _ => 17
  | .cvtDW _ _ => 17
  | .cvtDL _ _ => 17
  | .cFS _ _ => 17
  | .cFD _ _ => 17
  | .cFPs _ _ => 17
  | .cUnS _ _ => 17
  | .cUnD _ _ => 17
  | .cUnPs _ _ => 17
  | .cEqS _ _ => 17
  | .cEqD _ _ => 17
  | .cEqPs _ _ => 17
  | .cUeqS _ _ => 17
  | .cUeqD _ _ => 17
  | .cUeqPs _ _ => 17
  | .cOltS _ _ => 17
  | .cOltD _ _ => 17
  | .cOltPs _ _ => 17
  | .cUltS _ _ => 17
  | .cUltD _ _ => 17
  | .cUltPs _ _ => 17
  | .cOleS _ _ => 17
  | .cOleD _ _ => 17
  | .cOlePs _ _ => 17
  | .cUleS _ _ => 17
  | .cUleD _ _ => 17
  | .cUlePs _ _ => 17
  | .cSfS _ _ => 17
  | .cSfD _ _ => 17
  | .cSfPs _ _ => 17
  | .cNgleS _ _ => 17
  | .cNgleD _ _ => 17
  | .cNglePs _ _ => 17
  | .cSeqS _ _ => 17
  | .cSeqD _ _ => 17
  | .cSeqPs _ _ => 17
  | .cNglS _ _ => 17
  | .cNglD _ _ => 17
  | .cNglPs _ _ => 17
  | .cLtS _ _ => 17
  | .cLtD _ _ => 17
  | .cLtPs _ _ => 17
  | .cNgeS _ _ => 17
  | .cNgeD _ _ => 17
  | .cNgePs _ _ => 17
  | .cLeS _ _ => 17
  | .cLeD _ _ => 17
  | .cLePs _ _ => 17
  | .cNgtS _ _ => 17
  | .cNgtD _ _ => 17
  | .cNgtPs _ _ => 17
  | .mfc1 _ _ => 17
  | .dmfc1 _ _ => 17
  | .cfc1 _ _ => 17
  | .mtc1 _ _ => 17
  | .dmtc1 _ _ => 17
  | .ctc1 _ _ => 17
  | .bc1f _ => 17
  | .bc1t _ => 17
  | .bc1fl _ => 17
  | .bc1tl _ => 17
  | .maddS _ _ _ => 28
  | .maddD _ _ _ => 28
  | .maddPs _ _ _ => 28
  | .msubS _ _ _ => 28
  | .msubD _ _ _ => 28
  | .msubPs _ _ _ => 28
  | .nmaddS _ _ _ => 28
  | .nmaddD _ _ _ => 28
  | .nmaddPs _ _ _ => 28
  | .nmsubS _ _ _ => 28
  | .nmsubD _ _ _ => 28
  | .nmsubPs _ _ _ => 28

/-- The encoder puts the row's major opcode into the word. -/
def Laws.MajorOpcode.Statement (i : Instr) : Prop := fOp (encode i) = majorOpcode i

theorem Laws.MajorOpcode.lb :
    ∀ base rt offset, Statement (.lb base rt offset) :=
  fun _ _ _ => fOp_encI _ _ _ _
theorem Laws.MajorOpcode.lbu :
    ∀ base rt offset, Statement (.lbu base rt offset) :=
  fun _ _ _ => fOp_encI _ _ _ _
theorem Laws.MajorOpcode.lh :
    ∀ base rt offset, Statement (.lh base rt offset) :=
  fun _ _ _ => fOp_encI _ _ _ _
theorem Laws.MajorOpcode.lhu :
    ∀ base rt offset, Statement (.lhu base rt offset) :=
  fun _ _ _ => fOp_encI _ _ _ _
theorem Laws.MajorOpcode.lw :
    ∀ base rt offset, Statement (.lw base rt offset) :=
  fun _ _ _ => fOp_encI _ _ _ _
theorem Laws.MajorOpcode.lwu :
    ∀ base rt offset, Statement (.lwu base rt offset) :=
  fun _ _ _ => fOp_encI _ _ _ _
theorem Laws.MajorOpcode.ld :
    ∀ base rt offset, Statement (.ld base rt offset) :=
  fun _ _ _ => fOp_encI _ _ _ _
theorem Laws.MajorOpcode.lwl :
    ∀ base rt offset, Statement (.lwl base rt offset) :=
  fun _ _ _ => fOp_encI _ _ _ _
theorem Laws.MajorOpcode.lwr :
    ∀ base rt offset, Statement (.lwr base rt offset) :=
  fun _ _ _ => fOp_encI _ _ _ _
theorem Laws.MajorOpcode.ldl :
    ∀ base rt offset, Statement (.ldl base rt offset) :=
  fun _ _ _ => fOp_encI _ _ _ _
theorem Laws.MajorOpcode.ldr :
    ∀ base rt offset, Statement (.ldr base rt offset) :=
  fun _ _ _ => fOp_encI _ _ _ _
theorem Laws.MajorOpcode.swl :
    ∀ base rt offset, Statement (.swl base rt offset) :=
  fun _ _ _ => fOp_encI _ _ _ _
theorem Laws.MajorOpcode.swr :
    ∀ base rt offset, Statement (.swr base rt offset) :=
  fun _ _ _ => fOp_encI _ _ _ _
theorem Laws.MajorOpcode.sdl :
    ∀ base rt offset, Statement (.sdl base rt offset) :=
  fun _ _ _ => fOp_encI _ _ _ _
theorem Laws.MajorOpcode.sdr :
    ∀ base rt offset, Statement (.sdr base rt offset) :=
  fun _ _ _ => fOp_encI _ _ _ _
theorem Laws.MajorOpcode.sb :
    ∀ base rt offset, Statement (.sb base rt offset) :=
  fun _ _ _ => fOp_encI _ _ _ _
theorem Laws.MajorOpcode.sh :
    ∀ base rt offset, Statement (.sh base rt offset) :=
  fun _ _ _ => fOp_encI _ _ _ _
theorem Laws.MajorOpcode.sw :
    ∀ base rt offset, Statement (.sw base rt offset) :=
  fun _ _ _ => fOp_encI _ _ _ _
theorem Laws.MajorOpcode.sd :
    ∀ base rt offset, Statement (.sd base rt offset) :=
  fun _ _ _ => fOp_encI _ _ _ _
theorem Laws.MajorOpcode.ll :
    ∀ base rt offset, Statement (.ll base rt offset) :=
  fun _ _ _ => fOp_encI _ _ _ _
theorem Laws.MajorOpcode.lld :
    ∀ base rt offset, Statement (.lld base rt offset) :=
  fun _ _ _ => fOp_encI _ _ _ _
theorem Laws.MajorOpcode.sc :
    ∀ base rt offset, Statement (.sc base rt offset) :=
  fun _ _ _ => fOp_encI _ _ _ _
theorem Laws.MajorOpcode.scd :
    ∀ base rt offset, Statement (.scd base rt offset) :=
  fun _ _ _ => fOp_encI _ _ _ _
theorem Laws.MajorOpcode.lwc1 :
    ∀ base ft offset, Statement (.lwc1 base ft offset) :=
  fun _ _ _ => fOp_encI _ _ _ _
theorem Laws.MajorOpcode.ldc1 :
    ∀ base ft offset, Statement (.ldc1 base ft offset) :=
  fun _ _ _ => fOp_encI _ _ _ _
theorem Laws.MajorOpcode.swc1 :
    ∀ base ft offset, Statement (.swc1 base ft offset) :=
  fun _ _ _ => fOp_encI _ _ _ _
theorem Laws.MajorOpcode.sdc1 :
    ∀ base ft offset, Statement (.sdc1 base ft offset) :=
  fun _ _ _ => fOp_encI _ _ _ _
theorem Laws.MajorOpcode.sync : Statement .sync := fOp_encR _ _ _ _ _ _
theorem Laws.MajorOpcode.addi :
    ∀ rs rt imm, Statement (.addi rs rt imm) :=
  fun _ _ _ => fOp_encI _ _ _ _
theorem Laws.MajorOpcode.daddi :
    ∀ rs rt imm, Statement (.daddi rs rt imm) :=
  fun _ _ _ => fOp_encI _ _ _ _
theorem Laws.MajorOpcode.addiu :
    ∀ rs rt imm, Statement (.addiu rs rt imm) :=
  fun _ _ _ => fOp_encI _ _ _ _
theorem Laws.MajorOpcode.daddiu :
    ∀ rs rt imm, Statement (.daddiu rs rt imm) :=
  fun _ _ _ => fOp_encI _ _ _ _
theorem Laws.MajorOpcode.slti :
    ∀ rs rt imm, Statement (.slti rs rt imm) :=
  fun _ _ _ => fOp_encI _ _ _ _
theorem Laws.MajorOpcode.sltiu :
    ∀ rs rt imm, Statement (.sltiu rs rt imm) :=
  fun _ _ _ => fOp_encI _ _ _ _
theorem Laws.MajorOpcode.andi :
    ∀ rs rt imm, Statement (.andi rs rt imm) :=
  fun _ _ _ => fOp_encI _ _ _ _
theorem Laws.MajorOpcode.ori :
    ∀ rs rt imm, Statement (.ori rs rt imm) :=
  fun _ _ _ => fOp_encI _ _ _ _
theorem Laws.MajorOpcode.xori :
    ∀ rs rt imm, Statement (.xori rs rt imm) :=
  fun _ _ _ => fOp_encI _ _ _ _
theorem Laws.MajorOpcode.lui :
    ∀ rt imm, Statement (.lui rt imm) :=
  fun _ _ => fOp_encI _ _ _ _
theorem Laws.MajorOpcode.add :
    ∀ rs rt rd, Statement (.add rs rt rd) :=
  fun _ _ _ => fOp_encR _ _ _ _ _ _
theorem Laws.MajorOpcode.dadd :
    ∀ rs rt rd, Statement (.dadd rs rt rd) :=
  fun _ _ _ => fOp_encR _ _ _ _ _ _
theorem Laws.MajorOpcode.addu :
    ∀ rs rt rd, Statement (.addu rs rt rd) :=
  fun _ _ _ => fOp_encR _ _ _ _ _ _
theorem Laws.MajorOpcode.daddu :
    ∀ rs rt rd, Statement (.daddu rs rt rd) :=
  fun _ _ _ => fOp_encR _ _ _ _ _ _
theorem Laws.MajorOpcode.sub :
    ∀ rs rt rd, Statement (.sub rs rt rd) :=
  fun _ _ _ => fOp_encR _ _ _ _ _ _
theorem Laws.MajorOpcode.dsub :
    ∀ rs rt rd, Statement (.dsub rs rt rd) :=
  fun _ _ _ => fOp_encR _ _ _ _ _ _
theorem Laws.MajorOpcode.subu :
    ∀ rs rt rd, Statement (.subu rs rt rd) :=
  fun _ _ _ => fOp_encR _ _ _ _ _ _
theorem Laws.MajorOpcode.dsubu :
    ∀ rs rt rd, Statement (.dsubu rs rt rd) :=
  fun _ _ _ => fOp_encR _ _ _ _ _ _
theorem Laws.MajorOpcode.slt :
    ∀ rs rt rd, Statement (.slt rs rt rd) :=
  fun _ _ _ => fOp_encR _ _ _ _ _ _
theorem Laws.MajorOpcode.sltu :
    ∀ rs rt rd, Statement (.sltu rs rt rd) :=
  fun _ _ _ => fOp_encR _ _ _ _ _ _
theorem Laws.MajorOpcode.and :
    ∀ rs rt rd, Statement (.and rs rt rd) :=
  fun _ _ _ => fOp_encR _ _ _ _ _ _
theorem Laws.MajorOpcode.or :
    ∀ rs rt rd, Statement (.or rs rt rd) :=
  fun _ _ _ => fOp_encR _ _ _ _ _ _
theorem Laws.MajorOpcode.xor :
    ∀ rs rt rd, Statement (.xor rs rt rd) :=
  fun _ _ _ => fOp_encR _ _ _ _ _ _
theorem Laws.MajorOpcode.nor :
    ∀ rs rt rd, Statement (.nor rs rt rd) :=
  fun _ _ _ => fOp_encR _ _ _ _ _ _
theorem Laws.MajorOpcode.movz :
    ∀ rs rt rd, Statement (.movz rs rt rd) :=
  fun _ _ _ => fOp_encR _ _ _ _ _ _
theorem Laws.MajorOpcode.movn :
    ∀ rs rt rd, Statement (.movn rs rt rd) :=
  fun _ _ _ => fOp_encR _ _ _ _ _ _
theorem Laws.MajorOpcode.mult :
    ∀ rs rt, Statement (.mult rs rt) :=
  fun _ _ => fOp_encR _ _ _ _ _ _
theorem Laws.MajorOpcode.multu :
    ∀ rs rt, Statement (.multu rs rt) :=
  fun _ _ => fOp_encR _ _ _ _ _ _
theorem Laws.MajorOpcode.dmult :
    ∀ rs rt, Statement (.dmult rs rt) :=
  fun _ _ => fOp_encR _ _ _ _ _ _
theorem Laws.MajorOpcode.dmultu :
    ∀ rs rt, Statement (.dmultu rs rt) :=
  fun _ _ => fOp_encR _ _ _ _ _ _
theorem Laws.MajorOpcode.div :
    ∀ rs rt, Statement (.div rs rt) :=
  fun _ _ => fOp_encR _ _ _ _ _ _
theorem Laws.MajorOpcode.divu :
    ∀ rs rt, Statement (.divu rs rt) :=
  fun _ _ => fOp_encR _ _ _ _ _ _
theorem Laws.MajorOpcode.ddiv :
    ∀ rs rt, Statement (.ddiv rs rt) :=
  fun _ _ => fOp_encR _ _ _ _ _ _
theorem Laws.MajorOpcode.ddivu :
    ∀ rs rt, Statement (.ddivu rs rt) :=
  fun _ _ => fOp_encR _ _ _ _ _ _
theorem Laws.MajorOpcode.mfhi :
    ∀ rd, Statement (.mfhi rd) :=
  fun _ => fOp_encR _ _ _ _ _ _
theorem Laws.MajorOpcode.mthi :
    ∀ rs, Statement (.mthi rs) :=
  fun _ => fOp_encR _ _ _ _ _ _
theorem Laws.MajorOpcode.mflo :
    ∀ rd, Statement (.mflo rd) :=
  fun _ => fOp_encR _ _ _ _ _ _
theorem Laws.MajorOpcode.mtlo :
    ∀ rs, Statement (.mtlo rs) :=
  fun _ => fOp_encR _ _ _ _ _ _
theorem Laws.MajorOpcode.multg :
    ∀ rs rt rd, Statement (.multg rs rt rd) :=
  fun _ _ _ => fOp_encR _ _ _ _ _ _
theorem Laws.MajorOpcode.dmultg :
    ∀ rs rt rd, Statement (.dmultg rs rt rd) :=
  fun _ _ _ => fOp_encR _ _ _ _ _ _
theorem Laws.MajorOpcode.multug :
    ∀ rs rt rd, Statement (.multug rs rt rd) :=
  fun _ _ _ => fOp_encR _ _ _ _ _ _
theorem Laws.MajorOpcode.dmultug :
    ∀ rs rt rd, Statement (.dmultug rs rt rd) :=
  fun _ _ _ => fOp_encR _ _ _ _ _ _
theorem Laws.MajorOpcode.divg :
    ∀ rs rt rd, Statement (.divg rs rt rd) :=
  fun _ _ _ => fOp_encR _ _ _ _ _ _
theorem Laws.MajorOpcode.ddivg :
    ∀ rs rt rd, Statement (.ddivg rs rt rd) :=
  fun _ _ _ => fOp_encR _ _ _ _ _ _
theorem Laws.MajorOpcode.divug :
    ∀ rs rt rd, Statement (.divug rs rt rd) :=
  fun _ _ _ => fOp_encR _ _ _ _ _ _
theorem Laws.MajorOpcode.ddivug :
    ∀ rs rt rd, Statement (.ddivug rs rt rd) :=
  fun _ _ _ => fOp_encR _ _ _ _ _ _
theorem Laws.MajorOpcode.modg :
    ∀ rs rt rd, Statement (.modg rs rt rd) :=
  fun _ _ _ => fOp_encR _ _ _ _ _ _
theorem Laws.MajorOpcode.dmodg :
    ∀ rs rt rd, Statement (.dmodg rs rt rd) :=
  fun _ _ _ => fOp_encR _ _ _ _ _ _
theorem Laws.MajorOpcode.modug :
    ∀ rs rt rd, Statement (.modug rs rt rd) :=
  fun _ _ _ => fOp_encR _ _ _ _ _ _
theorem Laws.MajorOpcode.dmodug :
    ∀ rs rt rd, Statement (.dmodug rs rt rd) :=
  fun _ _ _ => fOp_encR _ _ _ _ _ _
theorem Laws.MajorOpcode.j :
    ∀ target, Statement (.j target) :=
  fun _ => fOp_encJ _ _
theorem Laws.MajorOpcode.jal :
    ∀ target, Statement (.jal target) :=
  fun _ => fOp_encJ _ _
theorem Laws.MajorOpcode.jr :
    ∀ rs, Statement (.jr rs) :=
  fun _ => fOp_encR _ _ _ _ _ _
theorem Laws.MajorOpcode.jalr :
    ∀ rs rd, Statement (.jalr rs rd) :=
  fun _ _ => fOp_encR _ _ _ _ _ _
theorem Laws.MajorOpcode.beq :
    ∀ rs rt imm, Statement (.beq rs rt imm) :=
  fun _ _ _ => fOp_encI _ _ _ _
theorem Laws.MajorOpcode.bne :
    ∀ rs rt imm, Statement (.bne rs rt imm) :=
  fun _ _ _ => fOp_encI _ _ _ _
theorem Laws.MajorOpcode.beql :
    ∀ rs rt imm, Statement (.beql rs rt imm) :=
  fun _ _ _ => fOp_encI _ _ _ _
theorem Laws.MajorOpcode.bnel :
    ∀ rs rt imm, Statement (.bnel rs rt imm) :=
  fun _ _ _ => fOp_encI _ _ _ _
theorem Laws.MajorOpcode.blez :
    ∀ rs imm, Statement (.blez rs imm) :=
  fun _ _ => fOp_encI _ _ _ _
theorem Laws.MajorOpcode.bgtz :
    ∀ rs imm, Statement (.bgtz rs imm) :=
  fun _ _ => fOp_encI _ _ _ _
theorem Laws.MajorOpcode.blezl :
    ∀ rs imm, Statement (.blezl rs imm) :=
  fun _ _ => fOp_encI _ _ _ _
theorem Laws.MajorOpcode.bgtzl :
    ∀ rs imm, Statement (.bgtzl rs imm) :=
  fun _ _ => fOp_encI _ _ _ _
theorem Laws.MajorOpcode.bltz :
    ∀ rs imm, Statement (.bltz rs imm) :=
  fun _ _ => fOp_encI _ _ _ _
theorem Laws.MajorOpcode.bgez :
    ∀ rs imm, Statement (.bgez rs imm) :=
  fun _ _ => fOp_encI _ _ _ _
theorem Laws.MajorOpcode.bltzal :
    ∀ rs imm, Statement (.bltzal rs imm) :=
  fun _ _ => fOp_encI _ _ _ _
theorem Laws.MajorOpcode.bgezal :
    ∀ rs imm, Statement (.bgezal rs imm) :=
  fun _ _ => fOp_encI _ _ _ _
theorem Laws.MajorOpcode.bltzl :
    ∀ rs imm, Statement (.bltzl rs imm) :=
  fun _ _ => fOp_encI _ _ _ _
theorem Laws.MajorOpcode.bgezl :
    ∀ rs imm, Statement (.bgezl rs imm) :=
  fun _ _ => fOp_encI _ _ _ _
theorem Laws.MajorOpcode.bltzall :
    ∀ rs imm, Statement (.bltzall rs imm) :=
  fun _ _ => fOp_encI _ _ _ _
theorem Laws.MajorOpcode.bgezall :
    ∀ rs imm, Statement (.bgezall rs imm) :=
  fun _ _ => fOp_encI _ _ _ _
theorem Laws.MajorOpcode.sll :
    ∀ rt rd sa, Statement (.sll rt rd sa) :=
  fun _ _ _ => fOp_encR _ _ _ _ _ _
theorem Laws.MajorOpcode.srl :
    ∀ rt rd sa, Statement (.srl rt rd sa) :=
  fun _ _ _ => fOp_encR _ _ _ _ _ _
theorem Laws.MajorOpcode.sra :
    ∀ rt rd sa, Statement (.sra rt rd sa) :=
  fun _ _ _ => fOp_encR _ _ _ _ _ _
theorem Laws.MajorOpcode.dsll :
    ∀ rt rd sa, Statement (.dsll rt rd sa) :=
  fun _ _ _ => fOp_encR _ _ _ _ _ _
theorem Laws.MajorOpcode.dsrl :
    ∀ rt rd sa, Statement (.dsrl rt rd sa) :=
  fun _ _ _ => fOp_encR _ _ _ _ _ _
theorem Laws.MajorOpcode.dsra :
    ∀ rt rd sa, Statement (.dsra rt rd sa) :=
  fun _ _ _ => fOp_encR _ _ _ _ _ _
theorem Laws.MajorOpcode.dsll32 :
    ∀ rt rd sa, Statement (.dsll32 rt rd sa) :=
  fun _ _ _ => fOp_encR _ _ _ _ _ _
theorem Laws.MajorOpcode.dsrl32 :
    ∀ rt rd sa, Statement (.dsrl32 rt rd sa) :=
  fun _ _ _ => fOp_encR _ _ _ _ _ _
theorem Laws.MajorOpcode.dsra32 :
    ∀ rt rd sa, Statement (.dsra32 rt rd sa) :=
  fun _ _ _ => fOp_encR _ _ _ _ _ _
theorem Laws.MajorOpcode.sllv :
    ∀ rs rt rd, Statement (.sllv rs rt rd) :=
  fun _ _ _ => fOp_encR _ _ _ _ _ _
theorem Laws.MajorOpcode.srlv :
    ∀ rs rt rd, Statement (.srlv rs rt rd) :=
  fun _ _ _ => fOp_encR _ _ _ _ _ _
theorem Laws.MajorOpcode.srav :
    ∀ rs rt rd, Statement (.srav rs rt rd) :=
  fun _ _ _ => fOp_encR _ _ _ _ _ _
theorem Laws.MajorOpcode.dsllv :
    ∀ rs rt rd, Statement (.dsllv rs rt rd) :=
  fun _ _ _ => fOp_encR _ _ _ _ _ _
theorem Laws.MajorOpcode.dsrlv :
    ∀ rs rt rd, Statement (.dsrlv rs rt rd) :=
  fun _ _ _ => fOp_encR _ _ _ _ _ _
theorem Laws.MajorOpcode.dsrav :
    ∀ rs rt rd, Statement (.dsrav rs rt rd) :=
  fun _ _ _ => fOp_encR _ _ _ _ _ _
theorem Laws.MajorOpcode.syscall :
    ∀ code20, Statement (.syscall code20) :=
  fun _ => fOp_encCode _ _
theorem Laws.MajorOpcode.brk :
    ∀ code20, Statement (.brk code20) :=
  fun _ => fOp_encCode _ _
theorem Laws.MajorOpcode.tge :
    ∀ rs rt code10, Statement (.tge rs rt code10) :=
  fun _ _ _ => fOp_encTrap _ _ _ _
theorem Laws.MajorOpcode.tgeu :
    ∀ rs rt code10, Statement (.tgeu rs rt code10) :=
  fun _ _ _ => fOp_encTrap _ _ _ _
theorem Laws.MajorOpcode.tlt :
    ∀ rs rt code10, Statement (.tlt rs rt code10) :=
  fun _ _ _ => fOp_encTrap _ _ _ _
theorem Laws.MajorOpcode.tltu :
    ∀ rs rt code10, Statement (.tltu rs rt code10) :=
  fun _ _ _ => fOp_encTrap _ _ _ _
theorem Laws.MajorOpcode.teq :
    ∀ rs rt code10, Statement (.teq rs rt code10) :=
  fun _ _ _ => fOp_encTrap _ _ _ _
theorem Laws.MajorOpcode.tne :
    ∀ rs rt code10, Statement (.tne rs rt code10) :=
  fun _ _ _ => fOp_encTrap _ _ _ _
theorem Laws.MajorOpcode.tgei :
    ∀ rs imm, Statement (.tgei rs imm) :=
  fun _ _ => fOp_encI _ _ _ _
theorem Laws.MajorOpcode.tgeiu :
    ∀ rs imm, Statement (.tgeiu rs imm) :=
  fun _ _ => fOp_encI _ _ _ _
theorem Laws.MajorOpcode.tlti :
    ∀ rs imm, Statement (.tlti rs imm) :=
  fun _ _ => fOp_encI _ _ _ _
theorem Laws.MajorOpcode.tltiu :
    ∀ rs imm, Statement (.tltiu rs imm) :=
  fun _ _ => fOp_encI _ _ _ _
theorem Laws.MajorOpcode.teqi :
    ∀ rs imm, Statement (.teqi rs imm) :=
  fun _ _ => fOp_encI _ _ _ _
theorem Laws.MajorOpcode.tnei :
    ∀ rs imm, Statement (.tnei rs imm) :=
  fun _ _ => fOp_encI _ _ _ _
theorem Laws.MajorOpcode.mfc0 :
    ∀ rt rd, Statement (.mfc0 rt rd) :=
  fun _ _ => fOp_encR _ _ _ _ _ _
theorem Laws.MajorOpcode.dmfc0 :
    ∀ rt rd, Statement (.dmfc0 rt rd) :=
  fun _ _ => fOp_encR _ _ _ _ _ _
theorem Laws.MajorOpcode.mtc0 :
    ∀ rt rd, Statement (.mtc0 rt rd) :=
  fun _ _ => fOp_encR _ _ _ _ _ _
theorem Laws.MajorOpcode.dmtc0 :
    ∀ rt rd, Statement (.dmtc0 rt rd) :=
  fun _ _ => fOp_encR _ _ _ _ _ _
theorem Laws.MajorOpcode.tlbp : Statement .tlbp := fOp_encR _ _ _ _ _ _
theorem Laws.MajorOpcode.tlbr : Statement .tlbr := fOp_encR _ _ _ _ _ _
theorem Laws.MajorOpcode.tlbwi : Statement .tlbwi := fOp_encR _ _ _ _ _ _
theorem Laws.MajorOpcode.tlbwr : Statement .tlbwr := fOp_encR _ _ _ _ _ _
theorem Laws.MajorOpcode.eret : Statement .eret := fOp_encR _ _ _ _ _ _
theorem Laws.MajorOpcode.cache :
    ∀ base opn offset, Statement (.cache base opn offset) :=
  fun _ _ _ => fOp_encI _ _ _ _
theorem Laws.MajorOpcode.addS :
    ∀ ft fs fd, Statement (.addS ft fs fd) :=
  fun _ _ _ => fOp_encR _ _ _ _ _ _
theorem Laws.MajorOpcode.addD :
    ∀ ft fs fd, Statement (.addD ft fs fd) :=
  fun _ _ _ => fOp_encR _ _ _ _ _ _
theorem Laws.MajorOpcode.addPs :
    ∀ ft fs fd, Statement (.addPs ft fs fd) :=
  fun _ _ _ => fOp_encR _ _ _ _ _ _
theorem Laws.MajorOpcode.subS :
    ∀ ft fs fd, Statement (.subS ft fs fd) :=
  fun _ _ _ => fOp_encR _ _ _ _ _ _
theorem Laws.MajorOpcode.subD :
    ∀ ft fs fd, Statement (.subD ft fs fd) :=
  fun _ _ _ => fOp_encR _ _ _ _ _ _
theorem Laws.MajorOpcode.subPs :
    ∀ ft fs fd, Statement (.subPs ft fs fd) :=
  fun _ _ _ => fOp_encR _ _ _ _ _ _
theorem Laws.MajorOpcode.mulS :
    ∀ ft fs fd, Statement (.mulS ft fs fd) :=
  fun _ _ _ => fOp_encR _ _ _ _ _ _
theorem Laws.MajorOpcode.mulD :
    ∀ ft fs fd, Statement (.mulD ft fs fd) :=
  fun _ _ _ => fOp_encR _ _ _ _ _ _
theorem Laws.MajorOpcode.mulPs :
    ∀ ft fs fd, Statement (.mulPs ft fs fd) :=
  fun _ _ _ => fOp_encR _ _ _ _ _ _
theorem Laws.MajorOpcode.divS :
    ∀ ft fs fd, Statement (.divS ft fs fd) :=
  fun _ _ _ => fOp_encR _ _ _ _ _ _
theorem Laws.MajorOpcode.divD :
    ∀ ft fs fd, Statement (.divD ft fs fd) :=
  fun _ _ _ => fOp_encR _ _ _ _ _ _
theorem Laws.MajorOpcode.sqrtS :
    ∀ fs fd, Statement (.sqrtS fs fd) :=
  fun _ _ => fOp_encR _ _ _ _ _ _
theorem Laws.MajorOpcode.sqrtD :
    ∀ fs fd, Statement (.sqrtD fs fd) :=
  fun _ _ => fOp_encR _ _ _ _ _ _
theorem Laws.MajorOpcode.absS :
    ∀ fs fd, Statement (.absS fs fd) :=
  fun _ _ => fOp_encR _ _ _ _ _ _
theorem Laws.MajorOpcode.absD :
    ∀ fs fd, Statement (.absD fs fd) :=
  fun _ _ => fOp_encR _ _ _ _ _ _
theorem Laws.MajorOpcode.absPs :
    ∀ fs fd, Statement (.absPs fs fd) :=
  fun _ _ => fOp_encR _ _ _ _ _ _
theorem Laws.MajorOpcode.movS :
    ∀ fs fd, Statement (.movS fs fd) :=
  fun _ _ => fOp_encR _ _ _ _ _ _
theorem Laws.MajorOpcode.movD :
    ∀ fs fd, Statement (.movD fs fd) :=
  fun _ _ => fOp_encR _ _ _ _ _ _
theorem Laws.MajorOpcode.movPs :
    ∀ fs fd, Statement (.movPs fs fd) :=
  fun _ _ => fOp_encR _ _ _ _ _ _
theorem Laws.MajorOpcode.negS :
    ∀ fs fd, Statement (.negS fs fd) :=
  fun _ _ => fOp_encR _ _ _ _ _ _
theorem Laws.MajorOpcode.negD :
    ∀ fs fd, Statement (.negD fs fd) :=
  fun _ _ => fOp_encR _ _ _ _ _ _
theorem Laws.MajorOpcode.negPs :
    ∀ fs fd, Statement (.negPs fs fd) :=
  fun _ _ => fOp_encR _ _ _ _ _ _
theorem Laws.MajorOpcode.roundLS :
    ∀ fs fd, Statement (.roundLS fs fd) :=
  fun _ _ => fOp_encR _ _ _ _ _ _
theorem Laws.MajorOpcode.roundLD :
    ∀ fs fd, Statement (.roundLD fs fd) :=
  fun _ _ => fOp_encR _ _ _ _ _ _
theorem Laws.MajorOpcode.truncLS :
    ∀ fs fd, Statement (.truncLS fs fd) :=
  fun _ _ => fOp_encR _ _ _ _ _ _
theorem Laws.MajorOpcode.truncLD :
    ∀ fs fd, Statement (.truncLD fs fd) :=
  fun _ _ => fOp_encR _ _ _ _ _ _
theorem Laws.MajorOpcode.ceilLS :
    ∀ fs fd, Statement (.ceilLS fs fd) :=
  fun _ _ => fOp_encR _ _ _ _ _ _
theorem Laws.MajorOpcode.ceilLD :
    ∀ fs fd, Statement (.ceilLD fs fd) :=
  fun _ _ => fOp_encR _ _ _ _ _ _
theorem Laws.MajorOpcode.floorLS :
    ∀ fs fd, Statement (.floorLS fs fd) :=
  fun _ _ => fOp_encR _ _ _ _ _ _
theorem Laws.MajorOpcode.floorLD :
    ∀ fs fd, Statement (.floorLD fs fd) :=
  fun _ _ => fOp_encR _ _ _ _ _ _
theorem Laws.MajorOpcode.roundWS :
    ∀ fs fd, Statement (.roundWS fs fd) :=
  fun _ _ => fOp_encR _ _ _ _ _ _
theorem Laws.MajorOpcode.roundWD :
    ∀ fs fd, Statement (.roundWD fs fd) :=
  fun _ _ => fOp_encR _ _ _ _ _ _
theorem Laws.MajorOpcode.truncWS :
    ∀ fs fd, Statement (.truncWS fs fd) :=
  fun _ _ => fOp_encR _ _ _ _ _ _
theorem Laws.MajorOpcode.truncWD :
    ∀ fs fd, Statement (.truncWD fs fd) :=
  fun _ _ => fOp_encR _ _ _ _ _ _
theorem Laws.MajorOpcode.ceilWS :
    ∀ fs fd, Statement (.ceilWS fs fd) :=
  fun _ _ => fOp_encR _ _ _ _ _ _
theorem Laws.MajorOpcode.ceilWD :
    ∀ fs fd, Statement (.ceilWD fs fd) :=
  fun _ _ => fOp_encR _ _ _ _ _ _
theorem Laws.MajorOpcode.floorWS :
    ∀ fs fd, Statement (.floorWS fs fd) :=
  fun _ _ => fOp_encR _ _ _ _ _ _
theorem Laws.MajorOpcode.floorWD :
    ∀ fs fd, Statement (.floorWD fs fd) :=
  fun _ _ => fOp_encR _ _ _ _ _ _
theorem Laws.MajorOpcode.cvtWS :
    ∀ fs fd, Statement (.cvtWS fs fd) :=
  fun _ _ => fOp_encR _ _ _ _ _ _
theorem Laws.MajorOpcode.cvtWD :
    ∀ fs fd, Statement (.cvtWD fs fd) :=
  fun _ _ => fOp_encR _ _ _ _ _ _
theorem Laws.MajorOpcode.cvtLS :
    ∀ fs fd, Statement (.cvtLS fs fd) :=
  fun _ _ => fOp_encR _ _ _ _ _ _
theorem Laws.MajorOpcode.cvtLD :
    ∀ fs fd, Statement (.cvtLD fs fd) :=
  fun _ _ => fOp_encR _ _ _ _ _ _
theorem Laws.MajorOpcode.cvtSD :
    ∀ fs fd, Statement (.cvtSD fs fd) :=
  fun _ _ => fOp_encR _ _ _ _ _ _
theorem Laws.MajorOpcode.cvtSW :
    ∀ fs fd, Statement (.cvtSW fs fd) :=
  fun _ _ => fOp_encR _ _ _ _ _ _
theorem Laws.MajorOpcode.cvtSL :
    ∀ fs fd, Statement (.cvtSL fs fd) :=
  fun _ _ => fOp_encR _ _ _ _ _ _
theorem Laws.MajorOpcode.cvtDS :
    ∀ fs fd, Statement (.cvtDS fs fd) :=
  fun _ _ => fOp_encR _ _ _ _ _ _
theorem Laws.MajorOpcode.cvtDW :
    ∀ fs fd, Statement (.cvtDW fs fd) :=
  fun _ _ => fOp_encR _ _ _ _ _ _
theorem Laws.MajorOpcode.cvtDL :
    ∀ fs fd, Statement (.cvtDL fs fd) :=
  fun _ _ => fOp_encR _ _ _ _ _ _
theorem Laws.MajorOpcode.cFS :
    ∀ ft fs, Statement (.cFS ft fs) :=
  fun _ _ => fOp_encR _ _ _ _ _ _
theorem Laws.MajorOpcode.cFD :
    ∀ ft fs, Statement (.cFD ft fs) :=
  fun _ _ => fOp_encR _ _ _ _ _ _
theorem Laws.MajorOpcode.cFPs :
    ∀ ft fs, Statement (.cFPs ft fs) :=
  fun _ _ => fOp_encR _ _ _ _ _ _
theorem Laws.MajorOpcode.cUnS :
    ∀ ft fs, Statement (.cUnS ft fs) :=
  fun _ _ => fOp_encR _ _ _ _ _ _
theorem Laws.MajorOpcode.cUnD :
    ∀ ft fs, Statement (.cUnD ft fs) :=
  fun _ _ => fOp_encR _ _ _ _ _ _
theorem Laws.MajorOpcode.cUnPs :
    ∀ ft fs, Statement (.cUnPs ft fs) :=
  fun _ _ => fOp_encR _ _ _ _ _ _
theorem Laws.MajorOpcode.cEqS :
    ∀ ft fs, Statement (.cEqS ft fs) :=
  fun _ _ => fOp_encR _ _ _ _ _ _
theorem Laws.MajorOpcode.cEqD :
    ∀ ft fs, Statement (.cEqD ft fs) :=
  fun _ _ => fOp_encR _ _ _ _ _ _
theorem Laws.MajorOpcode.cEqPs :
    ∀ ft fs, Statement (.cEqPs ft fs) :=
  fun _ _ => fOp_encR _ _ _ _ _ _
theorem Laws.MajorOpcode.cUeqS :
    ∀ ft fs, Statement (.cUeqS ft fs) :=
  fun _ _ => fOp_encR _ _ _ _ _ _
theorem Laws.MajorOpcode.cUeqD :
    ∀ ft fs, Statement (.cUeqD ft fs) :=
  fun _ _ => fOp_encR _ _ _ _ _ _
theorem Laws.MajorOpcode.cUeqPs :
    ∀ ft fs, Statement (.cUeqPs ft fs) :=
  fun _ _ => fOp_encR _ _ _ _ _ _
theorem Laws.MajorOpcode.cOltS :
    ∀ ft fs, Statement (.cOltS ft fs) :=
  fun _ _ => fOp_encR _ _ _ _ _ _
theorem Laws.MajorOpcode.cOltD :
    ∀ ft fs, Statement (.cOltD ft fs) :=
  fun _ _ => fOp_encR _ _ _ _ _ _
theorem Laws.MajorOpcode.cOltPs :
    ∀ ft fs, Statement (.cOltPs ft fs) :=
  fun _ _ => fOp_encR _ _ _ _ _ _
theorem Laws.MajorOpcode.cUltS :
    ∀ ft fs, Statement (.cUltS ft fs) :=
  fun _ _ => fOp_encR _ _ _ _ _ _
theorem Laws.MajorOpcode.cUltD :
    ∀ ft fs, Statement (.cUltD ft fs) :=
  fun _ _ => fOp_encR _ _ _ _ _ _
theorem Laws.MajorOpcode.cUltPs :
    ∀ ft fs, Statement (.cUltPs ft fs) :=
  fun _ _ => fOp_encR _ _ _ _ _ _
theorem Laws.MajorOpcode.cOleS :
    ∀ ft fs, Statement (.cOleS ft fs) :=
  fun _ _ => fOp_encR _ _ _ _ _ _
theorem Laws.MajorOpcode.cOleD :
    ∀ ft fs, Statement (.cOleD ft fs) :=
  fun _ _ => fOp_encR _ _ _ _ _ _
theorem Laws.MajorOpcode.cOlePs :
    ∀ ft fs, Statement (.cOlePs ft fs) :=
  fun _ _ => fOp_encR _ _ _ _ _ _
theorem Laws.MajorOpcode.cUleS :
    ∀ ft fs, Statement (.cUleS ft fs) :=
  fun _ _ => fOp_encR _ _ _ _ _ _
theorem Laws.MajorOpcode.cUleD :
    ∀ ft fs, Statement (.cUleD ft fs) :=
  fun _ _ => fOp_encR _ _ _ _ _ _
theorem Laws.MajorOpcode.cUlePs :
    ∀ ft fs, Statement (.cUlePs ft fs) :=
  fun _ _ => fOp_encR _ _ _ _ _ _
theorem Laws.MajorOpcode.cSfS :
    ∀ ft fs, Statement (.cSfS ft fs) :=
  fun _ _ => fOp_encR _ _ _ _ _ _
theorem Laws.MajorOpcode.cSfD :
    ∀ ft fs, Statement (.cSfD ft fs) :=
  fun _ _ => fOp_encR _ _ _ _ _ _
theorem Laws.MajorOpcode.cSfPs :
    ∀ ft fs, Statement (.cSfPs ft fs) :=
  fun _ _ => fOp_encR _ _ _ _ _ _
theorem Laws.MajorOpcode.cNgleS :
    ∀ ft fs, Statement (.cNgleS ft fs) :=
  fun _ _ => fOp_encR _ _ _ _ _ _
theorem Laws.MajorOpcode.cNgleD :
    ∀ ft fs, Statement (.cNgleD ft fs) :=
  fun _ _ => fOp_encR _ _ _ _ _ _
theorem Laws.MajorOpcode.cNglePs :
    ∀ ft fs, Statement (.cNglePs ft fs) :=
  fun _ _ => fOp_encR _ _ _ _ _ _
theorem Laws.MajorOpcode.cSeqS :
    ∀ ft fs, Statement (.cSeqS ft fs) :=
  fun _ _ => fOp_encR _ _ _ _ _ _
theorem Laws.MajorOpcode.cSeqD :
    ∀ ft fs, Statement (.cSeqD ft fs) :=
  fun _ _ => fOp_encR _ _ _ _ _ _
theorem Laws.MajorOpcode.cSeqPs :
    ∀ ft fs, Statement (.cSeqPs ft fs) :=
  fun _ _ => fOp_encR _ _ _ _ _ _
theorem Laws.MajorOpcode.cNglS :
    ∀ ft fs, Statement (.cNglS ft fs) :=
  fun _ _ => fOp_encR _ _ _ _ _ _
theorem Laws.MajorOpcode.cNglD :
    ∀ ft fs, Statement (.cNglD ft fs) :=
  fun _ _ => fOp_encR _ _ _ _ _ _
theorem Laws.MajorOpcode.cNglPs :
    ∀ ft fs, Statement (.cNglPs ft fs) :=
  fun _ _ => fOp_encR _ _ _ _ _ _
theorem Laws.MajorOpcode.cLtS :
    ∀ ft fs, Statement (.cLtS ft fs) :=
  fun _ _ => fOp_encR _ _ _ _ _ _
theorem Laws.MajorOpcode.cLtD :
    ∀ ft fs, Statement (.cLtD ft fs) :=
  fun _ _ => fOp_encR _ _ _ _ _ _
theorem Laws.MajorOpcode.cLtPs :
    ∀ ft fs, Statement (.cLtPs ft fs) :=
  fun _ _ => fOp_encR _ _ _ _ _ _
theorem Laws.MajorOpcode.cNgeS :
    ∀ ft fs, Statement (.cNgeS ft fs) :=
  fun _ _ => fOp_encR _ _ _ _ _ _
theorem Laws.MajorOpcode.cNgeD :
    ∀ ft fs, Statement (.cNgeD ft fs) :=
  fun _ _ => fOp_encR _ _ _ _ _ _
theorem Laws.MajorOpcode.cNgePs :
    ∀ ft fs, Statement (.cNgePs ft fs) :=
  fun _ _ => fOp_encR _ _ _ _ _ _
theorem Laws.MajorOpcode.cLeS :
    ∀ ft fs, Statement (.cLeS ft fs) :=
  fun _ _ => fOp_encR _ _ _ _ _ _
theorem Laws.MajorOpcode.cLeD :
    ∀ ft fs, Statement (.cLeD ft fs) :=
  fun _ _ => fOp_encR _ _ _ _ _ _
theorem Laws.MajorOpcode.cLePs :
    ∀ ft fs, Statement (.cLePs ft fs) :=
  fun _ _ => fOp_encR _ _ _ _ _ _
theorem Laws.MajorOpcode.cNgtS :
    ∀ ft fs, Statement (.cNgtS ft fs) :=
  fun _ _ => fOp_encR _ _ _ _ _ _
theorem Laws.MajorOpcode.cNgtD :
    ∀ ft fs, Statement (.cNgtD ft fs) :=
  fun _ _ => fOp_encR _ _ _ _ _ _
theorem Laws.MajorOpcode.cNgtPs :
    ∀ ft fs, Statement (.cNgtPs ft fs) :=
  fun _ _ => fOp_encR _ _ _ _ _ _
theorem Laws.MajorOpcode.mfc1 :
    ∀ rt fs, Statement (.mfc1 rt fs) :=
  fun _ _ => fOp_encR _ _ _ _ _ _
theorem Laws.MajorOpcode.dmfc1 :
    ∀ rt fs, Statement (.dmfc1 rt fs) :=
  fun _ _ => fOp_encR _ _ _ _ _ _
theorem Laws.MajorOpcode.cfc1 :
    ∀ rt fs, Statement (.cfc1 rt fs) :=
  fun _ _ => fOp_encR _ _ _ _ _ _
theorem Laws.MajorOpcode.mtc1 :
    ∀ rt fs, Statement (.mtc1 rt fs) :=
  fun _ _ => fOp_encR _ _ _ _ _ _
theorem Laws.MajorOpcode.dmtc1 :
    ∀ rt fs, Statement (.dmtc1 rt fs) :=
  fun _ _ => fOp_encR _ _ _ _ _ _
theorem Laws.MajorOpcode.ctc1 :
    ∀ rt fs, Statement (.ctc1 rt fs) :=
  fun _ _ => fOp_encR _ _ _ _ _ _
theorem Laws.MajorOpcode.bc1f :
    ∀ offset, Statement (.bc1f offset) :=
  fun _ => fOp_encI _ _ _ _
theorem Laws.MajorOpcode.bc1t :
    ∀ offset, Statement (.bc1t offset) :=
  fun _ => fOp_encI _ _ _ _
theorem Laws.MajorOpcode.bc1fl :
    ∀ offset, Statement (.bc1fl offset) :=
  fun _ => fOp_encI _ _ _ _
theorem Laws.MajorOpcode.bc1tl :
    ∀ offset, Statement (.bc1tl offset) :=
  fun _ => fOp_encI _ _ _ _
theorem Laws.MajorOpcode.maddS :
    ∀ ft fs fd, Statement (.maddS ft fs fd) :=
  fun _ _ _ => fOp_encR _ _ _ _ _ _
theorem Laws.MajorOpcode.maddD :
    ∀ ft fs fd, Statement (.maddD ft fs fd) :=
  fun _ _ _ => fOp_encR _ _ _ _ _ _
theorem Laws.MajorOpcode.maddPs :
    ∀ ft fs fd, Statement (.maddPs ft fs fd) :=
  fun _ _ _ => fOp_encR _ _ _ _ _ _
theorem Laws.MajorOpcode.msubS :
    ∀ ft fs fd, Statement (.msubS ft fs fd) :=
  fun _ _ _ => fOp_encR _ _ _ _ _ _
theorem Laws.MajorOpcode.msubD :
    ∀ ft fs fd, Statement (.msubD ft fs fd) :=
  fun _ _ _ => fOp_encR _ _ _ _ _ _
theorem Laws.MajorOpcode.msubPs :
    ∀ ft fs fd, Statement (.msubPs ft fs fd) :=
  fun _ _ _ => fOp_encR _ _ _ _ _ _
theorem Laws.MajorOpcode.nmaddS :
    ∀ ft fs fd, Statement (.nmaddS ft fs fd) :=
  fun _ _ _ => fOp_encR _ _ _ _ _ _
theorem Laws.MajorOpcode.nmaddD :
    ∀ ft fs fd, Statement (.nmaddD ft fs fd) :=
  fun _ _ _ => fOp_encR _ _ _ _ _ _
theorem Laws.MajorOpcode.nmaddPs :
    ∀ ft fs fd, Statement (.nmaddPs ft fs fd) :=
  fun _ _ _ => fOp_encR _ _ _ _ _ _
theorem Laws.MajorOpcode.nmsubS :
    ∀ ft fs fd, Statement (.nmsubS ft fs fd) :=
  fun _ _ _ => fOp_encR _ _ _ _ _ _
theorem Laws.MajorOpcode.nmsubD :
    ∀ ft fs fd, Statement (.nmsubD ft fs fd) :=
  fun _ _ _ => fOp_encR _ _ _ _ _ _
theorem Laws.MajorOpcode.nmsubPs :
    ∀ ft fs fd, Statement (.nmsubPs ft fs fd) :=
  fun _ _ _ => fOp_encR _ _ _ _ _ _

end Sys2Proof
end

