-- ==== Sys2Proof/Tests/Slice0.lean ====
section
/-! SUPPORT. The model's own tests: every constructor's decoding by a word of the spec
(95_test_vectors.md, else opcode_table.json's match bits with the field values written beside it), the
well-formedness checks, one-step vectors of 95_test_vectors.md part B, and for every statement with
hypotheses a concrete state and operands that meet them. -/

namespace Sys2Proof.Tests

open Machine

set_option Elab.async false

/-! Decoding. -/

theorem test_decode_1 :
    decode 0x80820000 = .ok (.lb 4 2 0)
    ∧ decode 0x90820000 = .ok (.lbu 4 2 0)
    ∧ decode 0x84820000 = .ok (.lh 4 2 0)
    ∧ decode 0x94820000 = .ok (.lhu 4 2 0)
    ∧ decode 0x8C820000 = .ok (.lw 4 2 0)
    ∧ decode 0x9C820004 = .ok (.lwu 4 2 4)
    ∧ decode 0xDC820000 = .ok (.ld 4 2 0)
    ∧ decode 0x88820004 = .ok (.lwl 4 2 4)
    ∧ decode 0x98820001 = .ok (.lwr 4 2 1)
    ∧ decode 0x69321234 = .ok (.ldl 9 18 0x1234)
    ∧ decode 0x6D321234 = .ok (.ldr 9 18 0x1234)
    ∧ decode 0xA8830010 = .ok (.swl 4 3 16)
    ∧ decode 0xB883000D = .ok (.swr 4 3 13)
    ∧ decode 0xB1321234 = .ok (.sdl 9 18 0x1234)
    ∧ decode 0xB5321234 = .ok (.sdr 9 18 0x1234)
    ∧ decode 0xA1321234 = .ok (.sb 9 18 0x1234)
    ∧ decode 0xA4820002 = .ok (.sh 4 2 2) :=
  ⟨rfl, rfl, rfl, rfl, rfl, rfl, rfl, rfl, rfl, rfl, rfl, rfl, rfl, rfl, rfl, rfl, rfl⟩

theorem test_decode_2 :
    decode 0xAC820004 = .ok (.sw 4 2 4)
    ∧ decode 0xFC820000 = .ok (.sd 4 2 0)
    ∧ decode 0xC08A0008 = .ok (.ll 4 10 8)
    ∧ decode 0xD0820004 = .ok (.lld 4 2 4)
    ∧ decode 0xE08A0008 = .ok (.sc 4 10 8)
    ∧ decode 0xF0820008 = .ok (.scd 4 2 8)
    ∧ decode 0xC4820008 = .ok (.lwc1 4 2 8)
    ∧ decode 0xD4820008 = .ok (.ldc1 4 2 8)
    ∧ decode 0xE4820008 = .ok (.swc1 4 2 8)
    ∧ decode 0xF4820008 = .ok (.sdc1 4 2 8)
    ∧ decode 0x0000000F = .ok .sync
    ∧ decode 0x20820001 = .ok (.addi 4 2 1)
    ∧ decode 0x60820001 = .ok (.daddi 4 2 1)
    ∧ decode 0x24820001 = .ok (.addiu 4 2 1)
    ∧ decode 0x64820001 = .ok (.daddiu 4 2 1)
    ∧ decode 0x2882FFFF = .ok (.slti 4 2 0xffff)
    ∧ decode 0x2C82FFFF = .ok (.sltiu 4 2 0xffff) :=
  ⟨rfl, rfl, rfl, rfl, rfl, rfl, rfl, rfl, rfl, rfl, rfl, rfl, rfl, rfl, rfl, rfl, rfl⟩

theorem test_decode_3 :
    decode 0x3082FFFF = .ok (.andi 4 2 0xffff)
    ∧ decode 0x3482FFFF = .ok (.ori 4 2 0xffff)
    ∧ decode 0x3882FFFF = .ok (.xori 4 2 0xffff)
    ∧ decode 0x3C028000 = .ok (.lui 2 0x8000)
    ∧ decode 0x00851020 = .ok (.add 4 5 2)
    ∧ decode 0x0085102C = .ok (.dadd 4 5 2)
    ∧ decode 0x00851021 = .ok (.addu 4 5 2)
    ∧ decode 0x0085102D = .ok (.daddu 4 5 2)
    ∧ decode 0x00851022 = .ok (.sub 4 5 2)
    ∧ decode 0x0085102E = .ok (.dsub 4 5 2)
    ∧ decode 0x00851023 = .ok (.subu 4 5 2)
    ∧ decode 0x0085102F = .ok (.dsubu 4 5 2)
    ∧ decode 0x0085102A = .ok (.slt 4 5 2)
    ∧ decode 0x0085102B = .ok (.sltu 4 5 2)
    ∧ decode 0x00851024 = .ok (.and 4 5 2)
    ∧ decode 0x00851025 = .ok (.or 4 5 2)
    ∧ decode 0x00851026 = .ok (.xor 4 5 2) :=
  ⟨rfl, rfl, rfl, rfl, rfl, rfl, rfl, rfl, rfl, rfl, rfl, rfl, rfl, rfl, rfl, rfl, rfl⟩

theorem test_decode_4 :
    decode 0x00851027 = .ok (.nor 4 5 2)
    ∧ decode 0x0085100A = .ok (.movz 4 5 2)
    ∧ decode 0x0085100B = .ok (.movn 4 5 2)
    ∧ decode 0x00850018 = .ok (.mult 4 5)
    ∧ decode 0x00850019 = .ok (.multu 4 5)
    ∧ decode 0x0085001C = .ok (.dmult 4 5)
    ∧ decode 0x0085001D = .ok (.dmultu 4 5)
    ∧ decode 0x0085001A = .ok (.div 4 5)
    ∧ decode 0x0085001B = .ok (.divu 4 5)
    ∧ decode 0x0085001E = .ok (.ddiv 4 5)
    ∧ decode 0x0085001F = .ok (.ddivu 4 5)
    ∧ decode 0x00004810 = .ok (.mfhi 9)
    ∧ decode 0x01200011 = .ok (.mthi 9)
    ∧ decode 0x00004812 = .ok (.mflo 9)
    ∧ decode 0x01200013 = .ok (.mtlo 9)
    ∧ decode 0x70851010 = .ok (.multg 4 5 2)
    ∧ decode 0x70851011 = .ok (.dmultg 4 5 2) :=
  ⟨rfl, rfl, rfl, rfl, rfl, rfl, rfl, rfl, rfl, rfl, rfl, rfl, rfl, rfl, rfl, rfl, rfl⟩

theorem test_decode_5 :
    decode 0x70851012 = .ok (.multug 4 5 2)
    ∧ decode 0x70851013 = .ok (.dmultug 4 5 2)
    ∧ decode 0x70851014 = .ok (.divg 4 5 2)
    ∧ decode 0x70851015 = .ok (.ddivg 4 5 2)
    ∧ decode 0x70851016 = .ok (.divug 4 5 2)
    ∧ decode 0x70851017 = .ok (.ddivug 4 5 2)
    ∧ decode 0x7085101C = .ok (.modg 4 5 2)
    ∧ decode 0x7085101D = .ok (.dmodg 4 5 2)
    ∧ decode 0x7085101E = .ok (.modug 4 5 2)
    ∧ decode 0x7085101F = .ok (.dmodug 4 5 2)
    ∧ decode 0x08001234 = .ok (.j 0x1234)
    ∧ decode 0x0C000040 = .ok (.jal 0x40)
    ∧ decode 0x03E00008 = .ok (.jr 31)
    ∧ decode 0x0080F809 = .ok (.jalr 4 31)
    ∧ decode 0x10850003 = .ok (.beq 4 5 3)
    ∧ decode 0x14850003 = .ok (.bne 4 5 3)
    ∧ decode 0x50850003 = .ok (.beql 4 5 3) :=
  ⟨rfl, rfl, rfl, rfl, rfl, rfl, rfl, rfl, rfl, rfl, rfl, rfl, rfl, rfl, rfl, rfl, rfl⟩

theorem test_decode_6 :
    decode 0x54850003 = .ok (.bnel 4 5 3)
    ∧ decode 0x1880FFFE = .ok (.blez 4 0xfffe)
    ∧ decode 0x1C80FFFE = .ok (.bgtz 4 0xfffe)
    ∧ decode 0x5880FFFE = .ok (.blezl 4 0xfffe)
    ∧ decode 0x5C80FFFE = .ok (.bgtzl 4 0xfffe)
    ∧ decode 0x0480FFFE = .ok (.bltz 4 0xfffe)
    ∧ decode 0x0481FFFE = .ok (.bgez 4 0xfffe)
    ∧ decode 0x0490FFFE = .ok (.bltzal 4 0xfffe)
    ∧ decode 0x0491FFFE = .ok (.bgezal 4 0xfffe)
    ∧ decode 0x0482FFFE = .ok (.bltzl 4 0xfffe)
    ∧ decode 0x0483FFFE = .ok (.bgezl 4 0xfffe)
    ∧ decode 0x0492FFFE = .ok (.bltzall 4 0xfffe)
    ∧ decode 0x0493FFFE = .ok (.bgezall 4 0xfffe)
    ∧ decode 0x00041100 = .ok (.sll 4 2 4)
    ∧ decode 0x00041102 = .ok (.srl 4 2 4)
    ∧ decode 0x00041103 = .ok (.sra 4 2 4)
    ∧ decode 0x00041138 = .ok (.dsll 4 2 4) :=
  ⟨rfl, rfl, rfl, rfl, rfl, rfl, rfl, rfl, rfl, rfl, rfl, rfl, rfl, rfl, rfl, rfl, rfl⟩

theorem test_decode_7 :
    decode 0x0004113A = .ok (.dsrl 4 2 4)
    ∧ decode 0x0004113B = .ok (.dsra 4 2 4)
    ∧ decode 0x0004113C = .ok (.dsll32 4 2 4)
    ∧ decode 0x0004113E = .ok (.dsrl32 4 2 4)
    ∧ decode 0x0004113F = .ok (.dsra32 4 2 4)
    ∧ decode 0x00A41004 = .ok (.sllv 5 4 2)
    ∧ decode 0x00A41006 = .ok (.srlv 5 4 2)
    ∧ decode 0x00A41007 = .ok (.srav 5 4 2)
    ∧ decode 0x00A41014 = .ok (.dsllv 5 4 2)
    ∧ decode 0x00A41016 = .ok (.dsrlv 5 4 2)
    ∧ decode 0x00A41017 = .ok (.dsrav 5 4 2)
    ∧ decode 0x0000000C = .ok (.syscall 0)
    ∧ decode 0x0000000D = .ok (.brk 0)
    ∧ decode 0x00850030 = .ok (.tge 4 5 0)
    ∧ decode 0x00850031 = .ok (.tgeu 4 5 0)
    ∧ decode 0x00850032 = .ok (.tlt 4 5 0)
    ∧ decode 0x00850033 = .ok (.tltu 4 5 0) :=
  ⟨rfl, rfl, rfl, rfl, rfl, rfl, rfl, rfl, rfl, rfl, rfl, rfl, rfl, rfl, rfl, rfl, rfl⟩

theorem test_decode_8 :
    decode 0x00850034 = .ok (.teq 4 5 0)
    ∧ decode 0x00850036 = .ok (.tne 4 5 0)
    ∧ decode 0x0488FFFF = .ok (.tgei 4 0xffff)
    ∧ decode 0x0489FFFF = .ok (.tgeiu 4 0xffff)
    ∧ decode 0x048AFFFF = .ok (.tlti 4 0xffff)
    ∧ decode 0x048BFFFF = .ok (.tltiu 4 0xffff)
    ∧ decode 0x048CFFFF = .ok (.teqi 4 0xffff)
    ∧ decode 0x048EFFFF = .ok (.tnei 4 0xffff)
    ∧ decode 0x40026000 = .ok (.mfc0 2 12)
    ∧ decode 0x40227000 = .ok (.dmfc0 2 14)
    ∧ decode 0x40827000 = .ok (.mtc0 2 14)
    ∧ decode 0x40A27000 = .ok (.dmtc0 2 14)
    ∧ decode 0x42000008 = .ok .tlbp
    ∧ decode 0x42000001 = .ok .tlbr
    ∧ decode 0x42000002 = .ok .tlbwi
    ∧ decode 0x42000006 = .ok .tlbwr
    ∧ decode 0x42000018 = .ok .eret :=
  ⟨rfl, rfl, rfl, rfl, rfl, rfl, rfl, rfl, rfl, rfl, rfl, rfl, rfl, rfl, rfl, rfl, rfl⟩

theorem test_decode_9 :
    decode 0xBD321234 = .ok (.cache 9 18 0x1234)
    ∧ decode 0x46041180 = .ok (.addS 4 2 6)
    ∧ decode 0x462996C0 = .ok (.addD 9 18 27)
    ∧ decode 0x46C41180 = .ok (.addPs 4 2 6)
    ∧ decode 0x46041181 = .ok (.subS 4 2 6)
    ∧ decode 0x46241181 = .ok (.subD 4 2 6)
    ∧ decode 0x46C41181 = .ok (.subPs 4 2 6)
    ∧ decode 0x46041182 = .ok (.mulS 4 2 6)
    ∧ decode 0x462996C2 = .ok (.mulD 9 18 27)
    ∧ decode 0x46C41182 = .ok (.mulPs 4 2 6)
    ∧ decode 0x46041183 = .ok (.divS 4 2 6)
    ∧ decode 0x46241183 = .ok (.divD 4 2 6)
    ∧ decode 0x46001184 = .ok (.sqrtS 2 6)
    ∧ decode 0x46201184 = .ok (.sqrtD 2 6)
    ∧ decode 0x46001185 = .ok (.absS 2 6)
    ∧ decode 0x46204C85 = .ok (.absD 9 18)
    ∧ decode 0x46C01185 = .ok (.absPs 2 6) :=
  ⟨rfl, rfl, rfl, rfl, rfl, rfl, rfl, rfl, rfl, rfl, rfl, rfl, rfl, rfl, rfl, rfl, rfl⟩

theorem test_decode_10 :
    decode 0x46001186 = .ok (.movS 2 6)
    ∧ decode 0x46201186 = .ok (.movD 2 6)
    ∧ decode 0x46C01186 = .ok (.movPs 2 6)
    ∧ decode 0x46001187 = .ok (.negS 2 6)
    ∧ decode 0x46201187 = .ok (.negD 2 6)
    ∧ decode 0x46C01187 = .ok (.negPs 2 6)
    ∧ decode 0x46004C88 = .ok (.roundLS 9 18)
    ∧ decode 0x46204C88 = .ok (.roundLD 9 18)
    ∧ decode 0x46004C89 = .ok (.truncLS 9 18)
    ∧ decode 0x46204C89 = .ok (.truncLD 9 18)
    ∧ decode 0x46004C8A = .ok (.ceilLS 9 18)
    ∧ decode 0x46204C8A = .ok (.ceilLD 9 18)
    ∧ decode 0x46004C8B = .ok (.floorLS 9 18)
    ∧ decode 0x46204C8B = .ok (.floorLD 9 18)
    ∧ decode 0x46004C8C = .ok (.roundWS 9 18)
    ∧ decode 0x4620118C = .ok (.roundWD 2 6)
    ∧ decode 0x46004C8D = .ok (.truncWS 9 18) :=
  ⟨rfl, rfl, rfl, rfl, rfl, rfl, rfl, rfl, rfl, rfl, rfl, rfl, rfl, rfl, rfl, rfl, rfl⟩

theorem test_decode_11 :
    decode 0x46204C8D = .ok (.truncWD 9 18)
    ∧ decode 0x46004C8E = .ok (.ceilWS 9 18)
    ∧ decode 0x46204C8E = .ok (.ceilWD 9 18)
    ∧ decode 0x46004C8F = .ok (.floorWS 9 18)
    ∧ decode 0x46204C8F = .ok (.floorWD 9 18)
    ∧ decode 0x460011A4 = .ok (.cvtWS 2 6)
    ∧ decode 0x462011A4 = .ok (.cvtWD 2 6)
    ∧ decode 0x46004CA5 = .ok (.cvtLS 9 18)
    ∧ decode 0x462011A5 = .ok (.cvtLD 2 6)
    ∧ decode 0x462011A0 = .ok (.cvtSD 2 6)
    ∧ decode 0x468011A0 = .ok (.cvtSW 2 6)
    ∧ decode 0x46A011A0 = .ok (.cvtSL 2 6)
    ∧ decode 0x460011A1 = .ok (.cvtDS 2 6)
    ∧ decode 0x468011A1 = .ok (.cvtDW 2 6)
    ∧ decode 0x46A011A1 = .ok (.cvtDL 2 6)
    ∧ decode 0x46099030 = .ok (.cFS 9 18)
    ∧ decode 0x46299030 = .ok (.cFD 9 18) :=
  ⟨rfl, rfl, rfl, rfl, rfl, rfl, rfl, rfl, rfl, rfl, rfl, rfl, rfl, rfl, rfl, rfl, rfl⟩

theorem test_decode_12 :
    decode 0x46C99030 = .ok (.cFPs 9 18)
    ∧ decode 0x46099031 = .ok (.cUnS 9 18)
    ∧ decode 0x46299031 = .ok (.cUnD 9 18)
    ∧ decode 0x46C99031 = .ok (.cUnPs 9 18)
    ∧ decode 0x46041032 = .ok (.cEqS 4 2)
    ∧ decode 0x46299032 = .ok (.cEqD 9 18)
    ∧ decode 0x46C41032 = .ok (.cEqPs 4 2)
    ∧ decode 0x46099033 = .ok (.cUeqS 9 18)
    ∧ decode 0x46299033 = .ok (.cUeqD 9 18)
    ∧ decode 0x46C99033 = .ok (.cUeqPs 9 18)
    ∧ decode 0x46099034 = .ok (.cOltS 9 18)
    ∧ decode 0x46299034 = .ok (.cOltD 9 18)
    ∧ decode 0x46C99034 = .ok (.cOltPs 9 18)
    ∧ decode 0x46099035 = .ok (.cUltS 9 18)
    ∧ decode 0x46299035 = .ok (.cUltD 9 18)
    ∧ decode 0x46C99035 = .ok (.cUltPs 9 18)
    ∧ decode 0x46099036 = .ok (.cOleS 9 18) :=
  ⟨rfl, rfl, rfl, rfl, rfl, rfl, rfl, rfl, rfl, rfl, rfl, rfl, rfl, rfl, rfl, rfl, rfl⟩

theorem test_decode_13 :
    decode 0x46299036 = .ok (.cOleD 9 18)
    ∧ decode 0x46C99036 = .ok (.cOlePs 9 18)
    ∧ decode 0x46099037 = .ok (.cUleS 9 18)
    ∧ decode 0x46299037 = .ok (.cUleD 9 18)
    ∧ decode 0x46C99037 = .ok (.cUlePs 9 18)
    ∧ decode 0x46099038 = .ok (.cSfS 9 18)
    ∧ decode 0x46299038 = .ok (.cSfD 9 18)
    ∧ decode 0x46C99038 = .ok (.cSfPs 9 18)
    ∧ decode 0x46099039 = .ok (.cNgleS 9 18)
    ∧ decode 0x46299039 = .ok (.cNgleD 9 18)
    ∧ decode 0x46C99039 = .ok (.cNglePs 9 18)
    ∧ decode 0x4609903A = .ok (.cSeqS 9 18)
    ∧ decode 0x4629903A = .ok (.cSeqD 9 18)
    ∧ decode 0x46C9903A = .ok (.cSeqPs 9 18)
    ∧ decode 0x4609903B = .ok (.cNglS 9 18)
    ∧ decode 0x4629903B = .ok (.cNglD 9 18)
    ∧ decode 0x46C9903B = .ok (.cNglPs 9 18) :=
  ⟨rfl, rfl, rfl, rfl, rfl, rfl, rfl, rfl, rfl, rfl, rfl, rfl, rfl, rfl, rfl, rfl, rfl⟩

theorem test_decode_14 :
    decode 0x4602203C = .ok (.cLtS 2 4)
    ∧ decode 0x4624103C = .ok (.cLtD 4 2)
    ∧ decode 0x46C4103C = .ok (.cLtPs 4 2)
    ∧ decode 0x4609903D = .ok (.cNgeS 9 18)
    ∧ decode 0x4629903D = .ok (.cNgeD 9 18)
    ∧ decode 0x46C9903D = .ok (.cNgePs 9 18)
    ∧ decode 0x4609903E = .ok (.cLeS 9 18)
    ∧ decode 0x4629903E = .ok (.cLeD 9 18)
    ∧ decode 0x46C9903E = .ok (.cLePs 9 18)
    ∧ decode 0x4609903F = .ok (.cNgtS 9 18)
    ∧ decode 0x4629903F = .ok (.cNgtD 9 18)
    ∧ decode 0x46C9903F = .ok (.cNgtPs 9 18)
    ∧ decode 0x44022000 = .ok (.mfc1 2 4)
    ∧ decode 0x44222000 = .ok (.dmfc1 2 4)
    ∧ decode 0x44420000 = .ok (.cfc1 2 0)
    ∧ decode 0x44822000 = .ok (.mtc1 2 4)
    ∧ decode 0x44A22000 = .ok (.dmtc1 2 4) :=
  ⟨rfl, rfl, rfl, rfl, rfl, rfl, rfl, rfl, rfl, rfl, rfl, rfl, rfl, rfl, rfl, rfl, rfl⟩

theorem test_decode_15 :
    decode 0x44C2F800 = .ok (.ctc1 2 31)
    ∧ decode 0x45000004 = .ok (.bc1f 4)
    ∧ decode 0x45010004 = .ok (.bc1t 4)
    ∧ decode 0x45020004 = .ok (.bc1fl 4)
    ∧ decode 0x45030004 = .ok (.bc1tl 4)
    ∧ decode 0x720996D8 = .ok (.maddS 9 18 27)
    ∧ decode 0x72241198 = .ok (.maddD 4 2 6)
    ∧ decode 0x72C41198 = .ok (.maddPs 4 2 6)
    ∧ decode 0x720996D9 = .ok (.msubS 9 18 27)
    ∧ decode 0x72241199 = .ok (.msubD 4 2 6)
    ∧ decode 0x72C996D9 = .ok (.msubPs 9 18 27)
    ∧ decode 0x720996DA = .ok (.nmaddS 9 18 27)
    ∧ decode 0x7224119A = .ok (.nmaddD 4 2 6)
    ∧ decode 0x72C996DA = .ok (.nmaddPs 9 18 27)
    ∧ decode 0x720996DB = .ok (.nmsubS 9 18 27)
    ∧ decode 0x7224119B = .ok (.nmsubD 4 2 6)
    ∧ decode 0x72C996DB = .ok (.nmsubPs 9 18 27) :=
  ⟨rfl, rfl, rfl, rfl, rfl, rfl, rfl, rfl, rfl, rfl, rfl, rfl, rfl, rfl, rfl, rfl, rfl⟩

/-- 95_test_vectors.md B15: words that are no instruction. -/
theorem test_decode_reserved :
    decode 0x00000001 = .error .reserved ∧ decode 0x00000005 = .error .reserved
    ∧ decode 0x04140000 = .error .reserved ∧ decode 0x4C000000 = .error .reserved
    ∧ decode 0xCC000000 = .error .reserved ∧ decode 0x70000000 = .error .reserved
    ∧ decode 0x42000020 = .error .cop0Reserved ∧ decode 0x46000011 = .error .cop1Unlisted
    ∧ decode 0x46C41183 = .error .cop1Unlisted ∧ decode 0x460011A0 = .error .cop1Unlisted
    ∧ decode 0x48000000 = .error .cop2 ∧ decode 0x00851060 = .error (.mustBeZero .base)
    ∧ decode 0x0000004F = .error (.mustBeZero .base) ∧ decode 0x70851410 = .error (.mustBeZero .base) :=
  ⟨rfl, rfl, rfl, rfl, rfl, rfl, rfl, rfl, rfl, rfl, rfl, rfl, rfl, rfl⟩
/-- A CO word with a reserved funct and a bit in [24:6] set (30_encoding.md R371, R390): the model's choice, log 31. -/
theorem test_decode_co_both : decode 0x42000060 = .error .cop0Reserved
    ∧ decode 0x42000058 = .error (.mustBeZero .cop0) := ⟨rfl, rfl⟩

/-- The word 0x3C04A000 lies in memory as 00 A0 04 3C (95_test_vectors.md part C, 20_memory.md R253). -/
theorem test_decode_bytes : wordOfBytes 0x00 0xA0 0x04 0x3C = 0x3C04A000 ∧
    decodeTableWord 32 0x3C04A000 = some (.lui 4 0xA000) := ⟨by decide, rfl⟩

/-! Well-formedness: each check refuses an ill-formed term and accepts its neighbour. -/

theorem test_wf_cache_op : (Instr.cache 4 0x04 0).wellFormed = false ∧ (Instr.cache 4 0x05 0).wellFormed = true := by
  decide
theorem test_wf_cfc1 : (Instr.cfc1 2 1).wellFormed = false ∧ (Instr.cfc1 2 31).wellFormed = true := by decide
theorem test_wf_ctc1 : (Instr.ctc1 2 30).wellFormed = false ∧ (Instr.ctc1 2 0).wellFormed = true := by decide
theorem test_wf_jalr : (Instr.jalr 4 4).wellFormed = false ∧ (Instr.jalr 4 31).wellFormed = true := by decide
theorem test_wf_link :
    (Instr.bltzal 31 0).wellFormed = false ∧ (Instr.bgezal 31 0).wellFormed = false
    ∧ (Instr.bltzall 31 0).wellFormed = false ∧ (Instr.bgezall 31 0).wellFormed = false
    ∧ (Instr.bgezal 0 2).wellFormed = true := by decide

/-! Small machines. -/

/-- Kernel mode out of reset with BEV = 0 (95_test_vectors.md), r4 and r5 set, DDR2 ready with some bytes
at 0x1000. -/
def box (r4 r5 : Word) (bytes : Nat := 0) : State :=
  let r := State.reset
  { r with
    pc := 0xFFFFFFFFA0000300
    gpr := (r.gpr.set 4 r4).set 5 r5
    cp0 := { r.cp0 with status := 0x30000000 }
    mem := { r.mem with ddr := writeBytes [] 0x1000 (BitVec.ofNat 256 bytes) 8
                        chip := { r.mem.chip with ddrReady := true } } }

/-- r2 as well. -/
def box2 (r2 r4 r5 : Word) (bytes : Nat := 0) : State :=
  { box r4 r5 bytes with gpr := (box r4 r5).gpr.set 2 r2 }

/-- f2, f4 and f6 set, FCR31 set; FR = 0. -/
def fbox (f2 f4 : Word) (f6 : Word := 0) (fcr : BitVec 32 := 0) : State :=
  let r := box 0 0
  { r with fpr := ((r.fpr.set 2 f2).set 4 f4).set 6 f6, fcr31 := fcr }

/-- The instruction gives a next state with the property. -/
noncomputable def gives (i : Instr) (s : State) (p : State → Bool) : Bool :=
  match exec i s with
  | .next t => p t
  | _ => false

/-- The instruction leaves `v` in r2. -/
noncomputable def r2Is (v : Word) (i : Instr) (s : State) : Bool := gives i s fun t => t.reg 2 == v

/-- The instruction leaves `v` in f6 and `c` in FCR31. -/
noncomputable def f6Is (v : Word) (c : BitVec 32) (i : Instr) (s : State) : Bool :=
  gives i s fun t => t.fpr[6] == v && t.fcr31 == c

/-- The instruction takes an exception: Cause, BadVAddr and the general vector. -/
noncomputable def traps (cause : BitVec 32) (i : Instr) (s : State) : Bool :=
  gives i s fun t => t.cp0.cause == cause && t.pc == 0xFFFFFFFF80000180 && t.cp0.epc == s.pc

/-- The eight bytes at 0x1000 afterwards. -/
noncomputable def memIs (v : Nat) (i : Instr) (s : State) : Bool :=
  gives i s fun t => readBytes t.mem.ddr 0x1000 8 == BitVec.ofNat 256 v

/-! 95_test_vectors.md B1: aligned loads and stores. -/

/-- Bytes 80 FF 7F 01 EF CD AB 89 at 0x1000. -/
def b1 : State := box2 0x123456789ABCDEF0 0xFFFFFFFFA0001000 0 0x89ABCDEF017FFF80

theorem test_load_byte : r2Is 0xFFFFFFFFFFFFFF80 (.lb 4 2 0) b1 = true ∧ r2Is 0x80 (.lbu 4 2 0) b1 = true
    ∧ r2Is 0x7F (.lb 4 2 2) b1 = true := by decide +kernel
theorem test_load_half : r2Is 0xFFFFFFFFFFFFFF80 (.lh 4 2 0) b1 = true ∧ r2Is 0xFF80 (.lhu 4 2 0) b1 = true
    ∧ r2Is 0x17F (.lh 4 2 2) b1 = true := by decide +kernel
theorem test_load_word : r2Is 0x17FFF80 (.lw 4 2 0) b1 = true ∧ r2Is 0xFFFFFFFF89ABCDEF (.lw 4 2 4) b1 = true
    ∧ r2Is 0x89ABCDEF (.lwu 4 2 4) b1 = true := by decide +kernel
theorem test_load_double : r2Is 0x89ABCDEF017FFF80 (.ld 4 2 0) b1 = true := by decide +kernel
theorem test_load_misaligned :
    traps 0x10 (.lh 4 2 1) b1 = true ∧ traps 0x10 (.lw 4 2 2) b1 = true ∧ traps 0x10 (.ld 4 2 4) b1 = true
    ∧ gives (.ld 4 2 4) b1 (fun t => t.cp0.badVAddr == 0xFFFFFFFFA0001004 && t.reg 2 == b1.reg 2) = true := by
  decide +kernel
theorem test_load_to_r0 : gives (.lw 4 0 1) b1 (fun t => t.pc == 0xFFFFFFFFA0000304) = true := by decide +kernel
theorem test_store : memIs 0x89ABCDEF017FF080 (.sb 4 2 1) b1 = true ∧ memIs 0x89ABCDEFDEF0FF80 (.sh 4 2 2) b1 = true
    ∧ memIs 0x9ABCDEF0017FFF80 (.sw 4 2 4) b1 = true ∧ memIs 0x123456789ABCDEF0 (.sd 4 2 0) b1 = true := by
  decide +kernel
theorem test_store_misaligned : traps 0x14 (.sh 4 2 1) b1 = true ∧ traps 0x14 (.sd 4 2 4) b1 = true := by
  decide +kernel

/-! B2: unaligned accesses. -/

/-- Bytes 11 22 .. 88 at 0x1000, r4 at offset b. -/
def b2 (r2 : Word) (b : Nat) : State := box2 r2 (0xFFFFFFFFA0001000 + BitVec.ofNat 64 b) 0 0x8877665544332211

theorem test_lwl_lwr :
    r2Is 0x11BBCCDD (.lwl 4 2 0) (b2 0xFFFFFFFFAABBCCDD 0) = true
    ∧ r2Is 0x332211DD (.lwl 4 2 0) (b2 0xFFFFFFFFAABBCCDD 2) = true
    ∧ r2Is 0xFFFFFFFFAA443322 (.lwr 4 2 0) (b2 0xFFFFFFFFAABBCCDD 1) = true
    ∧ r2Is 0xFFFFFFFFAABBCC44 (.lwr 4 2 0) (b2 0xFFFFFFFFAABBCCDD 3) = true := by decide +kernel
theorem test_ldl_ldr :
    r2Is 0x332211AAAAAAAAAA (.ldl 4 2 0) (b2 0xAAAAAAAAAAAAAAAA 2) = true
    ∧ r2Is 0x8877665544332211 (.ldl 4 2 0) (b2 0xAAAAAAAAAAAAAAAA 7) = true
    ∧ r2Is 0xAA88776655443322 (.ldr 4 2 0) (b2 0xAAAAAAAAAAAAAAAA 1) = true
    ∧ r2Is 0xAAAAAAAAAAAA8877 (.ldr 4 2 0) (b2 0xAAAAAAAAAAAAAAAA 6) = true := by decide +kernel
theorem test_swl_swr :
    memIs 0x8877665544AABBCC (.swl 4 2 0) (b2 0xFFFFFFFFAABBCCDD 2) = true
    ∧ memIs 0x88776655BBCCDD11 (.swr 4 2 0) (b2 0xFFFFFFFFAABBCCDD 1) = true := by decide +kernel
theorem test_sdl_sdr :
    memIs 0x8877665544080706 (.sdl 4 2 0) (b2 0x0807060504030201 2) = true
    ∧ memIs 0x0605040302012211 (.sdr 4 2 0) (b2 0x0807060504030201 2) = true := by decide +kernel

/-! B3: floating loads and stores, LL/SC, SYNC. -/

/-- The box with f2 set. -/
def b3 (f2 : Word) (bytes : Nat) : State :=
  let r := box 0xFFFFFFFFA0000FF8 0 bytes
  { r with fpr := r.fpr.set 2 f2 }

theorem test_lwc1_ldc1 : gives (.lwc1 4 2 8) (b3 0 0x3FC00000) (fun t => t.fprS 2 == 0x3FC00000) = true
    ∧ gives (.ldc1 4 2 8) (b3 0 0x4004000000000000) (fun t => t.fpr[2] == 0x4004000000000000) = true := by
  decide +kernel
theorem test_swc1_sdc1 : memIs 0x3F800000 (.swc1 4 2 8) (b3 0x400400003F800000 0) = true
    ∧ memIs 0x400400003F800000 (.sdc1 4 2 8) (b3 0x400400003F800000 0) = true := by decide +kernel
theorem test_ldc1_odd : exec (.ldc1 4 3 8) (b3 0 0) = .fault .fprOddRegister := rfl
theorem test_ll : gives (.ll 4 2 8) (b3 0 5) (fun t => t.reg 2 == 5 && t.llBit && t.llAddr == 0x1000) = true
    ∧ traps 0x10 (.lld 4 2 4) (b3 0 5) = true := by decide +kernel
theorem test_sc :
    gives (.sc 4 2 8) { box2 6 0xFFFFFFFFA0000FF8 0 5 with llBit := true, llAddr := 0x1000 }
      (fun t => t.reg 2 == 1 && !t.llBit && readBytes t.mem.ddr 0x1000 8 == 6) = true
    ∧ gives (.sc 4 2 8) (box2 6 0xFFFFFFFFA0000FF8 0 5)
      (fun t => t.reg 2 == 0 && readBytes t.mem.ddr 0x1000 8 == 5) = true
    ∧ traps 0x14 (.sc 4 2 6) (box2 6 0xFFFFFFFFA0000FF8 0 5) = true := by decide +kernel
theorem test_sync : gives .sync (b3 0 5) (fun t => t.gpr == (b3 0 5).gpr) = true := by decide +kernel

/-! B4 and B5: ALU. -/

theorem test_addi : traps 0x30 (.addi 4 2 1) (box 0x7FFFFFFF 0) = true ∧ r2Is 4 (.addi 4 2 0xFFFF) (box 5 0) = true := by
  decide +kernel
theorem test_addiu : r2Is 0xFFFFFFFF80000000 (.addiu 4 2 1) (box 0x7FFFFFFF 0) = true
    ∧ gives (.addiu 0 0 1) (box 0 0) (fun t => t.gpr[0] == 0) = true := by decide +kernel
theorem test_daddi : traps 0x30 (.daddi 4 2 1) (box 0x7FFFFFFFFFFFFFFF 0) = true
    ∧ r2Is 0x80000000 (.daddi 4 2 1) (box 0x7FFFFFFF 0) = true
    ∧ r2Is 0x8000000000000000 (.daddiu 4 2 1) (box 0x7FFFFFFFFFFFFFFF 0) = true := by decide +kernel
theorem test_slti : r2Is 0 (.slti 4 2 0xFFFF) (box 5 0) = true ∧ r2Is 1 (.sltiu 4 2 0xFFFF) (box 5 0) = true
    ∧ r2Is 1 (.slti 4 2 0) (box 0xFFFFFFFFFFFFFFFF 0) = true := by decide +kernel
theorem test_logic_immediate : r2Is 0xFFFF (.andi 4 2 0xFFFF) (box 0xFFFFFFFFFFFFFFFF 0) = true
    ∧ r2Is 0xFFFF (.ori 4 2 0xFFFF) (box 0 0) = true
    ∧ r2Is 0xFFFFFFFFFFFF0000 (.xori 4 2 0xFFFF) (box 0xFFFFFFFFFFFFFFFF 0) = true
    ∧ r2Is 0xFFFFFFFF80000000 (.lui 2 0x8000) (box 0 0) = true := by decide +kernel
theorem test_add_sub : traps 0x30 (.add 4 5 2) (box 0x7FFFFFFF 1) = true
    ∧ r2Is 0 (.add 4 5 2) (box 0xFFFFFFFFFFFFFFFF 1) = true
    ∧ r2Is 0xFFFFFFFF80000000 (.addu 4 5 2) (box 0x123456787FFFFFFF 1) = true
    ∧ traps 0x30 (.sub 4 5 2) (box 0xFFFFFFFF80000000 1) = true
    ∧ r2Is 0xFFFFFFFFFFFFFFFF (.subu 4 5 2) (box 0 1) = true := by decide +kernel
theorem test_dadd_dsub : traps 0x30 (.dadd 4 5 2) (box 0x7FFFFFFFFFFFFFFF 1) = true
    ∧ r2Is 0x8000000000000000 (.daddu 4 5 2) (box 0x7FFFFFFFFFFFFFFF 1) = true
    ∧ traps 0x30 (.dsub 4 5 2) (box 0x8000000000000000 1) = true
    ∧ r2Is 0x7FFFFFFFFFFFFFFF (.dsubu 4 5 2) (box 0x8000000000000000 1) = true := by decide +kernel
theorem test_slt : r2Is 1 (.slt 4 5 2) (box 0xFFFFFFFFFFFFFFFF 1) = true
    ∧ r2Is 0 (.sltu 4 5 2) (box 0xFFFFFFFFFFFFFFFF 1) = true := by decide +kernel
theorem test_logic : r2Is 0 (.and 4 5 2) (box 0x0F0F 0xF000) = true ∧ r2Is 0xFF0F (.or 4 5 2) (box 0x0F0F 0xF000) = true
    ∧ r2Is 0xFF0F (.xor 4 5 2) (box 0x0F0F 0xF000) = true
    ∧ r2Is 0xFFFFFFFFFFFF00F0 (.nor 4 5 2) (box 0x0F0F 0xF000) = true := by decide +kernel
theorem test_movz_movn : r2Is 7 (.movz 4 5 2) (box2 9 7 0) = true ∧ r2Is 9 (.movz 4 5 2) (box2 9 7 0x100000000) = true
    ∧ r2Is 9 (.movn 4 5 2) (box2 9 7 0) = true ∧ r2Is 7 (.movn 4 5 2) (box2 9 7 3) = true := by decide +kernel

/-! B6 and B7: multiply and divide. -/

/-- The instruction leaves these in HI and LO. -/
noncomputable def hiLo (h l : Word) (i : Instr) (s : State) : Bool := gives i s fun t => t.hi == h && t.lo == l

theorem test_mult : hiLo 0 1 (.mult 4 5) (box 0xFFFFFFFFFFFFFFFF 0xFFFFFFFFFFFFFFFF) = true
    ∧ hiLo 0xFFFFFFFFFFFFFFFE 1 (.multu 4 5) (box 0xFFFFFFFFFFFFFFFF 0xFFFFFFFFFFFFFFFF) = true
    ∧ hiLo 1 0 (.multu 4 5) (box 0xFFFFFFFF80000000 2) = true := by decide +kernel
theorem test_dmult : hiLo 0xFFFFFFFFFFFFFFFF 0xFFFFFFFE80000003 (.dmult 4 5) (box 0xFFFFFFFF80000001 3) = true
    ∧ hiLo 1 0x23456789ABCDEF00 (.dmultu 4 5) (box 0x123456789ABCDEF0 0x10) = true := by decide +kernel
theorem test_div : hiLo 0xFFFFFFFFFFFFFFFF 0xFFFFFFFFFFFFFFFD (.div 4 5) (box (-7) 2) = true
    ∧ hiLo 1 0xFFFFFFFFFFFFFFFD (.div 4 5) (box 7 (-2)) = true
    ∧ hiLo 0 0xFFFFFFFF80000000 (.div 4 5) (box 0xFFFFFFFF80000000 (-1)) = true
    ∧ hiLo 1 0x7FFFFFFC (.divu 4 5) (box 0xFFFFFFFFFFFFFFF9 2) = true := by decide +kernel
theorem test_ddiv : hiLo 0xFFFFFFFFFFFFFFFF 0xFFFFFFFFFFFFFFFD (.ddiv 4 5) (box (-7) 2) = true
    ∧ hiLo 0 0x8000000000000000 (.ddiv 4 5) (box 0x8000000000000000 (-1)) = true
    ∧ hiLo 1 0x7FFFFFFFFFFFFFFC (.ddivu 4 5) (box 0xFFFFFFFFFFFFFFF9 2) = true := by decide +kernel
theorem test_hi_lo_moves : gives (.mfhi 2) { box 0 0 with hi := 0x11 } (fun t => t.reg 2 == 0x11) = true
    ∧ gives (.mflo 3) { box 0 0 with lo := 0x22 } (fun t => t.reg 3 == 0x22) = true
    ∧ hiLo 0xDEAD 0 (.mthi 4) (box 0xDEAD 0) = true ∧ hiLo 0 0xBEEF (.mtlo 5) (box 0 0xBEEF) = true := by
  decide +kernel
theorem test_multg : r2Is 0 (.multg 4 5 2) (box 0x10000 0x10000) = true
    ∧ r2Is 0xFFFFFFFFAA886644 (.multg 4 5 2) (box 0x55443322 2) = true
    ∧ r2Is 0xAA886644 (.dmultg 4 5 2) (box 0x55443322 2) = true
    ∧ r2Is 0xFFFFFFFFFFFFFFFE (.multug 4 5 2) (box 0xFFFFFFFFFFFFFFFF 2) = true
    ∧ r2Is 0xFFFFFFFFFFFFFFFE (.dmultug 4 5 2) (box 0xFFFFFFFFFFFFFFFF 2) = true := by decide +kernel
theorem test_divg : r2Is 0xFFFFFFFFFFFFFFFD (.divg 4 5 2) (box (-7) 2) = true
    ∧ r2Is 0xFFFFFFFFFFFFFFFD (.ddivg 4 5 2) (box (-7) 2) = true
    ∧ r2Is 0x7FFFFFFC (.divug 4 5 2) (box (-7) 2) = true
    ∧ r2Is 0x7FFFFFFFFFFFFFFC (.ddivug 4 5 2) (box (-7) 2) = true
    ∧ r2Is 0xFFFFFFFF80000000 (.divg 4 5 2) (box 0xFFFFFFFF80000000 (-1)) = true := by decide +kernel
theorem test_modg : r2Is 0xFFFFFFFFFFFFFFFF (.modg 4 5 2) (box (-7) 2) = true
    ∧ r2Is 0xFFFFFFFFFFFFFFFF (.dmodg 4 5 2) (box (-7) 2) = true ∧ r2Is 1 (.modug 4 5 2) (box (-7) 2) = true
    ∧ r2Is 1 (.dmodug 4 5 2) (box (-7) 2) = true := by decide +kernel

/-! B8: jumps and branches. -/

/-- The slot follows, then the target. -/
noncomputable def goes (target : Option Word) (i : Instr) (s : State) : Bool :=
  gives i s fun t => t.pc == s.pc + 4 && t.nextPc == target && t.inSlot

/-- The slot is skipped. -/
noncomputable def skips (i : Instr) (s : State) : Bool := gives i s fun t => t.pc == s.pc + 8 && !t.inSlot

theorem test_jump : goes (some 0xFFFFFFFFA0000100) (.j 0x40) (box 0 0) = true
    ∧ goes (some 0xFFFFFFFFB0000100) (.j 0x40) { box 0 0 with pc := 0xFFFFFFFFAFFFFFFC } = true
    ∧ gives (.jal 0x40) (box 0 0) (fun t => t.reg 31 == 0xFFFFFFFFA0000308) = true := by decide +kernel
theorem test_jump_register : goes (some 0xFFFFFFFFA0000202) (.jr 4) (box 0xFFFFFFFFA0000202 0) = true
    ∧ goes (some 0x200) (.jalr 4 4) (box 0x200 0) = true
    ∧ gives (.jalr 4 4) (box 0x200 0) (fun t => t.reg 4 == 0xFFFFFFFFA0000308) = true := by decide +kernel
theorem test_beq_bne : goes (some 0xFFFFFFFFA0000310) (.beq 4 5 3) (box 6 6) = true
    ∧ goes none (.beq 4 5 3) (box 6 7) = true ∧ goes (some 0xFFFFFFFFA0000310) (.bne 4 5 3) (box 6 7) = true
    ∧ goes (some 0xFFFFFFFFA0000300) (.beq 0 0 0xFFFF) (box 0 0) = true := by decide +kernel
theorem test_sign_branches : goes (some 0xFFFFFFFFA00002FC) (.blez 4 0xFFFE) (box 0 0) = true
    ∧ goes none (.bgtz 4 0xFFFE) (box 0 0) = true
    ∧ goes (some 0xFFFFFFFFA00002FC) (.bltz 4 0xFFFE) (box 0x8000000000000000 0) = true
    ∧ goes none (.bltz 4 0xFFFE) (box 0x80000000 0) = true
    ∧ goes (some 0xFFFFFFFFA00002FC) (.bgez 4 0xFFFE) (box 0 0) = true := by decide +kernel
theorem test_linking_branches :
    gives (.bltzal 4 0xFFFE) (box 1 0) (fun t => t.nextPc == none && t.reg 31 == 0xFFFFFFFFA0000308) = true
    ∧ gives (.bgezal 4 0xFFFE) (box 1 0) (fun t => t.nextPc == some 0xFFFFFFFFA00002FC
        && t.reg 31 == 0xFFFFFFFFA0000308) = true
    ∧ gives (.bgezall 4 0xFFFE) (box (-1) 0) (fun t => t.pc == 0xFFFFFFFFA0000308
        && t.reg 31 == 0xFFFFFFFFA0000308) = true
    ∧ goes (some 0xFFFFFFFFA00002FC) (.bltzall 4 0xFFFE) (box (-1) 0) = true := by decide +kernel
theorem test_likely_branches : goes (some 0xFFFFFFFFA0000310) (.beql 4 5 3) (box 6 6) = true
    ∧ skips (.beql 4 5 3) (box 6 7) = true ∧ skips (.bnel 4 5 3) (box 6 6) = true
    ∧ skips (.blezl 4 0xFFFE) (box 1 0) = true ∧ goes (some 0xFFFFFFFFA00002FC) (.bgtzl 4 0xFFFE) (box 1 0) = true
    ∧ goes (some 0xFFFFFFFFA00002FC) (.bltzl 4 0xFFFE) (box (-1) 0) = true
    ∧ skips (.bgezl 4 0xFFFE) (box (-1) 0) = true := by decide +kernel
/-- 60_exceptions.md R844: an exception in a delay slot. -/
theorem test_exception_in_slot :
    gives (.lw 0 2 1) { box 0 0 with pc := 0xFFFFFFFF80001004, inSlot := true, nextPc := some 0xFFFFFFFF80001014 }
      (fun t => t.cp0.epc == 0xFFFFFFFF80001000 && t.cp0.cause == 0x80000010 && t.cp0.badVAddr == 1
        && t.pc == 0xFFFFFFFF80000180 && t.nextPc == none) = true := by decide +kernel

/-! B9: shifts. -/

/-- `x` and `y` of B9. -/
def shX : Word := 0xFFFFFFFF80000001
def shY : Word := 0x123456789ABCDEF0

theorem test_shift_word : r2Is 0x10 (.sll 4 2 4) (box shX 0) = true ∧ r2Is 0x08000000 (.srl 4 2 4) (box shX 0) = true
    ∧ r2Is 0xFFFFFFFFF8000000 (.sra 4 2 4) (box shX 0) = true ∧ r2Is shX (.srl 4 2 0) (box shX 0) = true
    ∧ r2Is 0xFFFFFFFF9ABCDEF0 (.sll 4 2 0) (box shY 0) = true := by decide +kernel
theorem test_shift_double : r2Is 0x23456789ABCDEF00 (.dsll 4 2 4) (box shY 0) = true
    ∧ r2Is 0x0123456789ABCDEF (.dsrl 4 2 4) (box shY 0) = true
    ∧ r2Is 0xFFFFFFFFF8000000 (.dsra 4 2 4) (box shX 0) = true
    ∧ r2Is 0xABCDEF0000000000 (.dsll32 4 2 4) (box shY 0) = true
    ∧ r2Is 0x01234567 (.dsrl32 4 2 4) (box shY 0) = true
    ∧ r2Is 0xFFFFFFFFFFFFFFFF (.dsra32 4 2 4) (box shX 0) = true
    ∧ r2Is 1 (.dsrl32 4 2 31) (box shX 0) = true := by decide +kernel
theorem test_shift_variable : r2Is 0x579BDE00 (.sllv 5 4 2) (box shY 0x25) = true
    ∧ r2Is 0x04D5E6F7 (.srlv 5 4 2) (box shY 0x25) = true
    ∧ r2Is 0xFFFFFFFFFCD5E6F7 (.srav 5 4 2) (box shY 0x25) = true
    ∧ r2Is 0x579BDE0000000000 (.dsllv 5 4 2) (box shY 0x25) = true
    ∧ r2Is 0x0091A2B3 (.dsrlv 5 4 2) (box shY 0x25) = true
    ∧ r2Is 0xFFFFFFFFFFFFFFFF (.dsrav 5 4 2) (box shX 0x25) = true
    ∧ r2Is shY (.dsllv 5 4 2) (box shY 0x40) = true := by decide +kernel

/-! B10: system calls, breakpoints, traps. -/

theorem test_syscall_break : traps 0x20 (.syscall 0) (box 0 0) = true ∧ traps 0x20 (.syscall 1) (box 0 0) = true
    ∧ traps 0x24 (.brk 0) (box 0 0) = true
    ∧ gives (.brk 0) State.reset (fun t => t.pc == 0xFFFFFFFFBFC00380) = true := by decide +kernel
theorem test_trap_register : traps 0x34 (.tge 4 5 0) (box 5 5) = true ∧ goes none (.tge 4 5 0) (box (-1) 1) = false
    ∧ traps 0x34 (.tgeu 4 5 0) (box (-1) 1) = true ∧ traps 0x34 (.tlt 4 5 0) (box (-1) 1) = true
    ∧ traps 0x34 (.tltu 4 5 0) (box (-1) 1) = false ∧ traps 0x34 (.teq 5 0 7) (box 0 0) = true
    ∧ traps 0x34 (.tne 4 5 0) (box 5 5) = false := by decide +kernel
theorem test_trap_immediate : traps 0x34 (.tgei 4 0xFFFF) (box (-1) 0) = true
    ∧ traps 0x34 (.tgeiu 4 0xFFFF) (box 0 0) = false ∧ traps 0x34 (.tlti 4 0xFFFF) (box (-2) 0) = true
    ∧ traps 0x34 (.tltiu 4 0xFFFF) (box 0 0) = true ∧ traps 0x34 (.teqi 4 0xFFFF) (box (-1) 0) = true
    ∧ traps 0x34 (.tnei 4 0xFFFF) (box (-1) 0) = false := by decide +kernel

/-! B11: CP0 moves, TLB, ERET, CACHE. -/

theorem test_mfc0 : r2Is 0x30400004 (.mfc0 2 12) State.reset = true ∧ r2Is 0x6302 (.mfc0 2 15) State.reset = true
    ∧ r2Is 0x30932 (.mfc0 2 16) State.reset = true ∧ r2Is 0 (.mfc0 2 7) State.reset = true := by decide +kernel
theorem test_mfc0_epc :
    r2Is 0xFFFFFFFF80001234 (.mfc0 2 14) { box 0 0 with cp0 := { (box 0 0).cp0 with epc := 0x180001234 } } = true
    ∧ r2Is 0x180001234 (.dmfc0 2 14) { box 0 0 with cp0 := { (box 0 0).cp0 with epc := 0x180001234 } } = true := by
  decide +kernel
theorem test_mtc0 : gives (.mtc0 4 14) (box 0x80000000 0) (fun t => t.cp0.epc == 0xFFFFFFFF80000000) = true
    ∧ gives (.dmtc0 4 14) (box 0x80000000 0) (fun t => t.cp0.epc == 0x80000000) = true
    ∧ gives (.mtc0 4 6) (box 0xFFFFFFFF 0) (fun t => t.cp0.wired == 63 && t.cp0.random == 63) = true
    ∧ gives (.mtc0 4 13) (box 0xFFFFFFFF 0) (fun t => t.cp0.cause == 0x300) = true := by decide +kernel

/-- Entry 5 of B11's TLBWI vector, in kernel mode, with ASID 3. -/
def tbox (entryHi : Word) : State :=
  let r := box 0x0200000A 0
  let page (n : BitVec 28) : TlbPage := { pfn := n, c := 2, d := true, v := true, e := false }
  { r with
    tlb := r.tlb.set 5 { mask := 0, r := 0, vpn2 := 0x1000, g := false, asid := 3, even := page 0x1000, odd := page 0x1001 }
    cp0 := { r.cp0 with index := 5, entryHi := entryHi, entryLo0 := 0x4001E, entryLo1 := 0x4005F } }

theorem test_tlbp : gives .tlbp (tbox 0x02000003) (fun t => t.cp0.index == 5) = true
    ∧ gives .tlbp (tbox 0x02000004) (fun t => t.pc == 0xFFFFFFFFA0000304) = true := by decide +kernel
theorem test_tlbwi : gives .tlbwi (tbox 0x02000003) (fun t => t.tlb[5] == { (tbox 0).tlb[5] with
      even := { pfn := 0x1000, c := 3, d := true, v := true, e := false }
      odd := { pfn := 0x1001, c := 3, d := true, v := true, e := false } }) = true
    ∧ exec .tlbwi { tbox 0 with cp0 := { (tbox 0).cp0 with pageMask := 0x4000 } } = .fault .tlbIllegalMask :=
  ⟨by decide +kernel, rfl⟩
theorem test_tlbr : gives .tlbr (tbox 0) (fun t => t.cp0.entryHi == 0x02000003 && t.cp0.entryLo0 == 0x40016
    && t.cp0.entryLo1 == 0x40056 && t.cp0.pageMask == 0) = true := by decide +kernel
theorem test_eret :
    gives .eret { box 0 0 with cp0 := { (box 0 0).cp0 with status := 0x13, epc := 0x400000 } }
      (fun t => t.cp0.status == 0x11 && t.pc == 0x400000) = true
    ∧ gives .eret { State.reset with cp0 := { Cp0.reset with epc := 0x10, errorEpc := 0x20 } }
      (fun t => t.cp0.status == 0x30400000 && t.pc == 0x10) = true := by decide +kernel
theorem test_cache_stops : exec (.cache 4 0x04 0) (box 0xFFFFFFFFA0000000 0) = .fault .cacheOpUndefined
    ∧ exec (.cache 4 0x00 0) (box 0xFFFFFFFFA0000000 0) = .fault .cacheOnUncached := ⟨rfl, rfl⟩
/-- A line stored by tag and data is found by a load (46_cp0_privileged.md R686, R693). -/
theorem test_cache_store_tag :
    gives (.cache 4 9 0) { box 0x9800000000001021 0 with cp0 := { (box 0 0).cp0 with tagLo := 0x000001F0, tagHi := 2 } }
      (fun t => (dGet t.mem 129 1).tag == 0x2000001 && (dGet t.mem 129 1).cs == 3 && (dGet t.mem 129 1).way == 3) = true := by
  decide +kernel

/-! B12: address translation. -/

theorem test_translate_mapped : translate (tbox 3) .load true 0x02000ABC = .ok 0x1000ABC 2
    ∧ translate (tbox 3) .load true 0x02001ABC = .ok 0x1001ABC 2
    ∧ translate (tbox 3) .load true 0x02002000 = .exc (.tlbRefill false 0x02002000)
    ∧ translate (tbox 4) .store true 0x02000ABC = .exc (.tlbRefill true 0x02000ABC)
    ∧ translate (tbox 3) .load true 0x4000000002000ABC = .exc (.tlbRefill false 0x4000000002000ABC) := by
  decide +kernel
theorem test_translate_direct : translate State.reset .load true 0xFFFFFFFF80001000 = .ok 0x1000 2
    ∧ translate State.reset .load true 0x900000003FF00000 = .ok 0x3FF00000 2
    ∧ translate State.reset .load true 0x9800000000001000 = .ok 0x1000 3
    ∧ translate State.reset .load true 0x9000010000000000 = .exc (.addressError false 0x9000010000000000)
    ∧ translate State.reset .load true 0x0000010000000000 = .exc (.addressError false 0x0000010000000000)
    ∧ translate State.reset .load true 0xC00000FF80000000 = .exc (.addressError false 0xC00000FF80000000) := by
  decide +kernel
/-- The default address windows (95_test_vectors.md A4). -/
theorem test_windows : route (Chip.reset {}) 0x1000 = .ok (.ddr 0x1000)
    ∧ route (Chip.reset {}) 0x1FC00000 = .ok (.io 0x1FC00000) ∧ route (Chip.reset {}) 0x20000000 = .ok .miss
    ∧ throughWindows (Chip.reset {}) 12 0x81234560 = .ok (.ddr 0x01234560) := ⟨rfl, rfl, rfl, rfl⟩
theorem test_refill_vector : gives (.lw 4 2 0) { tbox 3 with gpr := (tbox 3).gpr.set 4 0x02002000 }
    (fun t => t.pc == 0xFFFFFFFF80000000 && t.cp0.cause == 8 && t.cp0.entryHi == 0x02002003
      && t.cp0.context == 0x10010 && t.cp0.xcontext == 0x10010) = true := by decide +kernel

/-! B13 and B14: floating point. -/

theorem test_add_s : f6Is 0x40600000 0 (.addS 4 2 6) (fbox 0x3F800000 0x40200000) = true
    ∧ f6Is 0x3F800000 0x1004 (.addS 4 2 6) (fbox 0x3F800000 0x33800000) = true
    ∧ f6Is 0x3F800001 0x1006 (.addS 4 2 6) (fbox 0x3F800000 0x33800000 0 2) = true
    ∧ f6Is 0x7F800000 0x5014 (.addS 4 2 6) (fbox 0x7F7FFFFF 0x7F7FFFFF) = true
    ∧ f6Is 0x7FBFFFFF 0x10040 (.addS 4 2 6) (fbox 0x7F800000 0xFF800000) = true := by decide +kernel
theorem test_add_s_traps : traps 0x3C (.addS 4 2 6) (fbox 0x3F800000 0x33800000 0 0x80) = true
    ∧ f6Is 0 0x1080 (.addS 4 2 6) (fbox 0x3F800000 0x33800000 0 0x80) = true
    ∧ f6Is 0 0x20000 (.addS 4 2 6) (fbox 1 0x3F800000) = true
    ∧ f6Is 0 0x20000 (.addS 4 2 6) (fbox 0x7FBFFFFF 0x3F800000) = true
    ∧ f6Is 0x7FBFFFFF 0x10040 (.addS 4 2 6) (fbox 0x7FC00000 0x3F800000) = true := by decide +kernel
theorem test_sub_mul : f6Is 0x3FF0000000000000 0 (.subD 4 2 6) (fbox 0x4008000000000000 0x4000000000000000) = true
    ∧ f6Is 0x7FBFFFFF 0x10040 (.subS 4 2 6) (fbox 0x7F800000 0x7F800000) = true
    ∧ f6Is 0 0x20000 (.mulS 4 2 6) (fbox 0x00800000 0x3F000000) = true
    ∧ f6Is 0 0x100300C (.mulS 4 2 6) (fbox 0x00800000 0x3F000000 0 0x1000000) = true
    ∧ f6Is 0x00800000 0x100300E (.mulS 4 2 6) (fbox 0x00800000 0x3F000000 0 0x1000002) = true := by decide +kernel
theorem test_div_fp : f6Is 0x3FD5555555555555 0x1004 (.divD 4 2 6) (fbox 0x3FF0000000000000 0x4008000000000000) = true
    ∧ f6Is 0x4002AAAAAAAAAAAB 0x1004 (.divD 4 2 6) (fbox 0x401C000000000000 0x4008000000000000) = true
    ∧ f6Is 0x7F800000 0x8020 (.divS 4 2 6) (fbox 0x3F800000 0) = true
    ∧ f6Is 0x7FBFFFFF 0x10040 (.divS 4 2 6) (fbox 0 0) = true
    ∧ f6Is 0x7F800000 0 (.divS 4 2 6) (fbox 0x7F800000 0) = true := by decide +kernel
theorem test_sqrt : f6Is 0x3FB504F3 0x1004 (.sqrtS 2 6) (fbox 0x40000000 0) = true
    ∧ f6Is 0x3FF6A09E667F3BCD 0x1004 (.sqrtD 2 6) (fbox 0x4000000000000000 0) = true
    ∧ f6Is 0x7FBFFFFF 0x10040 (.sqrtS 2 6) (fbox 0xBF800000 0) = true
    ∧ f6Is 0x80000000 0 (.sqrtS 2 6) (fbox 0x80000000 0) = true := by decide +kernel
theorem test_units_disabled :
    exec (.sqrtS 2 6) { box 0 0 with cp0 := { (box 0 0).cp0 with status := 0x31000000 } } = .refused .fpUnitDisabled
    ∧ exec (.divS 4 2 6) { box 0 0 with cp0 := { (box 0 0).cp0 with status := 0x32000000 } } = .refused .fpUnitDisabled :=
  ⟨rfl, rfl⟩
theorem test_abs_neg_mov : f6Is 0x3F400000 0 (.absS 2 6) (fbox 0xBF400000 0) = true
    ∧ f6Is 0xBFF0000000000000 0 (.negD 2 6) (fbox 0x3FF0000000000000 0) = true
    ∧ f6Is 0x7FBFFFFF 0x1004 (.movS 2 6) (fbox 0x7FBFFFFF 0 0 0x1004) = true
    ∧ f6Is 1 0 (.movD 2 6) (fbox 1 0) = true := by decide +kernel
theorem test_to_integer : f6Is 2 0x1004 (.cvtWD 2 6) (fbox 0x4004000000000000 0) = true
    ∧ f6Is 3 0x1006 (.cvtWD 2 6) (fbox 0x4004000000000000 0 0 2) = true
    ∧ f6Is 4 0x1004 (.cvtWD 2 6) (fbox 0x400C000000000000 0) = true
    ∧ f6Is 0x7FFFFFFF 0x10040 (.cvtWS 2 6) (fbox 0x4F000000 0) = true
    ∧ f6Is 0x80000000 0 (.cvtWS 2 6) (fbox 0xCF000000 0) = true
    ∧ f6Is 0x7FFFFFFF 0x10040 (.cvtWS 2 6) (fbox 0x7FBFFFFF 0) = true
    ∧ f6Is 0x7FFFFFFFFFFFFFFF 0x10040 (.cvtLD 2 6) (fbox 0x7FF0000000000000 0) = true := by decide +kernel
theorem test_directed_rounding : f6Is 2 0x1004 (.roundWD 2 6) (fbox 0x4004000000000000 0) = true
    ∧ f6Is 2 0x1004 (.truncWD 2 6) (fbox 0x4004000000000000 0) = true
    ∧ f6Is 3 0x1004 (.ceilWD 2 6) (fbox 0x4004000000000000 0) = true
    ∧ f6Is 2 0x1004 (.floorWD 2 6) (fbox 0x4004000000000000 0) = true
    ∧ f6Is 0xFFFFFFFFFFFFFFFE 0x1004 (.roundLD 2 6) (fbox 0xC004000000000000 0) = true
    ∧ f6Is 0xFFFFFFFFFFFFFFFD 0x1004 (.floorLD 2 6) (fbox 0xC004000000000000 0) = true
    ∧ f6Is 0xFFFFFFFF 0x1004 (.roundWS 2 6) (fbox 0xBF400000 0) = true := by decide +kernel
theorem test_to_floating : f6Is 0x4B800000 0x1004 (.cvtSW 2 6) (fbox 0x01000001 0) = true
    ∧ f6Is 0xBFF0000000000000 0 (.cvtDW 2 6) (fbox 0xFFFFFFFF 0) = true
    ∧ f6Is 0x4340000000000000 0x1004 (.cvtDL 2 6) (fbox 0x0020000000000001 0) = true
    ∧ f6Is 0x3DCCCCCD 0x1004 (.cvtSD 2 6) (fbox 0x3FB999999999999A 0) = true
    ∧ f6Is 0x7F800000 0x5014 (.cvtSD 2 6) (fbox 0x47F0000000000000 0) = true
    ∧ f6Is 0x3FF8000000000000 0 (.cvtDS 2 6) (fbox 0x3FC00000 0) = true
    ∧ f6Is 0x7FF7FFFFFFFFFFFF 0x10040 (.cvtDS 2 6) (fbox 0x7FC00000 0) = true := by decide +kernel
/-- The compare leaves `c` in FCR31. -/
noncomputable def fcrIs (c : BitVec 32) (i : Instr) (s : State) : Bool := gives i s fun t => t.fcr31 == c
theorem test_compare : fcrIs 0x800000 (.cLtD 4 2) (fbox 0x3FF0000000000000 0x4000000000000000) = true
    ∧ fcrIs 0x800000 (.cEqS 4 2) (fbox 0 0x80000000) = true ∧ fcrIs 0 (.cOltS 4 2) (fbox 0 0x80000000) = true
    ∧ fcrIs 0x800000 (.cUnS 4 2) (fbox 0x7FBFFFFF 0x3F800000) = true
    ∧ fcrIs 0 (.cEqS 4 2) (fbox 0x7FBFFFFF 0x3F800000) = true
    ∧ fcrIs 0x10040 (.cLtS 4 2) (fbox 0x7FBFFFFF 0x3F800000) = true
    ∧ fcrIs 0x810040 (.cNgtS 4 2) (fbox 0x7FBFFFFF 0x3F800000) = true
    ∧ fcrIs 0x10040 (.cFS 4 2) (fbox 0x7FC00000 0x3F800000) = true
    ∧ fcrIs 0x800000 (.cLtS 2 4) (fbox 1 0) = true := by decide +kernel
theorem test_fp_moves : gives (.mfc1 2 4) (fbox 0 0xBF800000) (fun t => t.reg 2 == 0xFFFFFFFFBF800000) = true
    ∧ gives (.mfc1 2 5) (fbox 0 0xAAAAAAAABBBBBBBB) (fun t => t.reg 2 == 0xFFFFFFFFAAAAAAAA) = true
    ∧ gives (.dmfc1 2 4) (fbox 0 0x4004000000000000) (fun t => t.reg 2 == 0x4004000000000000) = true
    ∧ gives (.mtc1 4 4) (box 0x123456783F800000 0) (fun t => t.fprS 4 == 0x3F800000 && t.fprS 5 == 0) = true
    ∧ gives (.dmtc1 4 4) (box 0x123456783F800000 0) (fun t => t.fpr[4] == 0x123456783F800000) = true := by decide +kernel
theorem test_fp_control : r2Is 0x501 (.cfc1 2 0) (box 0 0) = true
    ∧ r2Is 0x801004 (.cfc1 2 31) (fbox 0 0 0 0x801004) = true
    ∧ fcrIs 0x1000003 (.ctc1 4 31) (box 0x1000003 0) = true
    ∧ traps 0x3C (.ctc1 4 31) (box 0xFFFFFFFF 0) = true ∧ fcrIs 0x383FFFF (.ctc1 4 31) (box 0xFFFFFFFF 0) = true
    ∧ traps 0x3C (.ctc1 4 31) (box 0x10800 0) = true ∧ traps 0x3C (.ctc1 4 31) (box 0x10000 0) = false := by
  decide +kernel
theorem test_fp_branches : goes (some 0xFFFFFFFFA0000314) (.bc1t 4) (fbox 0 0 0 0x800000) = true
    ∧ goes none (.bc1f 4) (fbox 0 0 0 0x800000) = true ∧ skips (.bc1fl 4) (fbox 0 0 0 0x800000) = true
    ∧ skips (.bc1tl 4) (fbox 0 0) = true ∧ goes none (.bc1t 4) (fbox 0 0 0 0x2000000) = true := by decide +kernel
/-- 2.0, 3.0 and the addend 1.0 (B13). -/
def mbox : State := fbox 0x4000000000000000 0x4008000000000000 0x3FF0000000000000
theorem test_madd_d : f6Is 0x401C000000000000 0 (.maddD 4 2 6) mbox = true
    ∧ f6Is 0x4014000000000000 0 (.msubD 4 2 6) mbox = true ∧ f6Is 0xC01C000000000000 0 (.nmaddD 4 2 6) mbox = true
    ∧ f6Is 0xC014000000000000 0 (.nmsubD 4 2 6) mbox = true := by decide +kernel
theorem test_madd_s : f6Is 0x40E00000 0 (.maddS 4 2 6) (fbox 0x40000000 0x40400000 0x3F800000) = true
    ∧ f6Is 0x40A00000 0 (.msubS 4 2 6) (fbox 0x40000000 0x40400000 0x3F800000) = true
    ∧ f6Is 0x3A000400 0 (.maddS 4 2 6) (fbox 0x3F800800 0x3F800800 0xBF800000) = true
    ∧ f6Is 0xC0E00000 0 (.nmaddS 4 2 6) (fbox 0x40000000 0x40400000 0x3F800000) = true
    ∧ f6Is 0xC0A00000 0 (.nmsubS 4 2 6) (fbox 0x40000000 0x40400000 0x3F800000) = true := by decide +kernel
/-- 2.0 | 1.0, 3.0 | 2.0 and 1.0 | 1.0 (B14). -/
def pbox : State := fbox 0x400000003F800000 0x4040000040000000 0x3F8000003F800000
theorem test_ps : f6Is 0x40A0000040400000 0 (.addPs 4 2 6) pbox = true
    ∧ f6Is 0xBF800000BF800000 0 (.subPs 4 2 6) pbox = true ∧ f6Is 0x40C0000040000000 0 (.mulPs 4 2 6) pbox = true
    ∧ f6Is 0x400000007F800000 0x5014 (.addPs 4 2 6) (fbox 0x3F8000007F7FFFFF 0x3F8000007F7FFFFF) = true
    ∧ f6Is 0 0x20000 (.addPs 4 2 6) (fbox 0x000000013F800000 0) = true := by decide +kernel
theorem test_ps_unary : f6Is 0x3F8000003F800000 0 (.absPs 2 6) (fbox 0xBF8000003F800000 0) = true
    ∧ f6Is 0x3F800000BF800000 0 (.negPs 2 6) (fbox 0xBF8000003F800000 0) = true
    ∧ f6Is 0xBF8000003F800000 0 (.movPs 2 6) (fbox 0xBF8000003F800000 0) = true := by decide +kernel
theorem test_ps_madd : f6Is 0x40E0000040400000 0 (.maddPs 4 2 6) pbox = true
    ∧ f6Is 0x40A000003F800000 0 (.msubPs 4 2 6) pbox = true ∧ f6Is 0xC0E00000C0400000 0 (.nmaddPs 4 2 6) pbox = true
    ∧ f6Is 0xC0A00000BF800000 0 (.nmsubPs 4 2 6) pbox = true := by decide +kernel
theorem test_ps_compare : fcrIs 0x2000000 (.cLtPs 4 2) (fbox 0x3F80000040000000 0x400000003F800000) = true
    ∧ fcrIs 0x2800000 (.cEqPs 4 2) (fbox 0x3F80000040000000 0x3F80000040000000) = true := by decide +kernel

/-! B16: exceptions and interrupts. -/

/-- The box with another Status. -/
def sbox (status : BitVec 32) (s : State) : State := { s with cp0 := { s.cp0 with status := status } }

theorem test_coprocessor_unusable : traps 0x1000002C (.addS 4 2 6) (sbox 0x10 (box 0 0)) = true
    ∧ traps 0x2C (.mtc0 4 12) (sbox 0x10 (box 0 0)) = true
    ∧ gives (.mfc0 2 25) (sbox 0x10 (box 0 0)) (fun t => t.pc == 0xFFFFFFFFA0000304) = true := by decide +kernel
theorem test_watch :
    traps 0x5C (.sb 4 2 5) { b1 with cp0 := { b1.cp0 with watch := 0xFFFFFFFFA0001001 } } = true
    ∧ r2Is 0xFFFFFFFFFFFFFFCD (.lb 4 2 5) { b1 with cp0 := { b1.cp0 with watch := 0xFFFFFFFFA0001001 } } = true := by
  decide +kernel
/-- The interrupt-controller vectors: Intenset, an active PCI INTA#, IP[6] (61_platform.md R940 to R942). -/
theorem test_interrupt_controller :
    let c := (Chip.reset {}).writeIo 12 0xFFFFFFFF 0x10
    let d := { c with pins := { Pins.quiet with pciInt := 0xE } }
    c.inten = 0x10 ∧ d.intisr = 0x10 ∧ d.lines = 0x10 ∧ (d.writeIo 13 0xFFFFFFFF 0x10).inten = 0
    ∧ (c.writeIo 12 0xFFFFFFFF 0x7FFF).inten = 0x7FF := by decide +kernel

/-! Whole steps. -/

/-- The first instruction after reset, placed by withFetchWord: ADDIU r2, r0, 5. -/
theorem test_step_first :
    (match step (State.reset.withFetchWord 32 0x24020005) with
      | .next t => t.reg 2 == 5 && t.pc == 0xFFFFFFFFBFC00004
      | _ => false) = true := by decide +kernel
/-- A branch and its slot: the step after BEQ r0, r0, +3 is the slot's, the pending target stays. -/
theorem test_step_branch :
    (match step (State.reset.withFetchWord 32 0x10000003) with
      | .next t => t.pc == 0xFFFFFFFFBFC00004 && t.nextPc == some 0xFFFFFFFFBFC00010 && t.inSlot
      | _ => false) = true := by decide +kernel
/-- A word of the reserved opcode 0x13 raises ReservedInstruction (30_encoding.md R388). -/
theorem test_step_reserved :
    (match step (State.reset.withFetchWord 32 0x4C000000) with
      | .next t => t.pc == 0xFFFFFFFFBFC00380 && t.cp0.cause == 0x28
      | _ => false) = true := by decide +kernel

/-! Witnesses: for every statement with hypotheses, states and operands that meet them, clause by clause. -/

theorem test_witness_EncodeOfDecode : ∃ i, decode 0x00851021 = .ok i := ⟨.addu 4 5 2, rfl⟩

/-- ADDIU r2, r0, 5 at the reset vector. -/
def w0 : State := State.reset.withFetchWord 32 0x24020005
/-- After the events before the step. -/
def w1 : State := match environment w0 with
  | .ok s => s
  | .error _ => w0
/-- After the fetch. -/
def w2 : State := match fetch w1 with
  | .word _ s => s
  | _ => w1

theorem test_witness_StepRunsDecoded :
    environment w0 = .ok w1 ∧ standby w1 = false ∧ w1.mode ≠ none ∧ w1.nmi = false ∧ interruptPending w1 = false
    ∧ fetch w1 = .word 0x24020005 w2 ∧ decode 0x24020005 = .ok (.addiu 0 2 5)
    ∧ ∃ t, exec (.addiu 0 2 5) w2 = .next t :=
  have core : standby w1 = false ∧ w1.mode ≠ none ∧ w1.nmi = false ∧ interruptPending w1 = false := by decide +kernel
  ⟨rfl, core.1, core.2.1, core.2.2.1, core.2.2.2, rfl, rfl, _, rfl⟩

theorem test_witness_BootRomFetch :
    State.reset.mode = some .kernel ∧ State.reset.mem.chip.winRegs = winRegsReset
    ∧ State.reset.pc = (0xFFFFFFFFBFC : BitVec 44) ++ (0 : BitVec 18) ++ (0 : BitVec 2)
    ∧ (0xFFFFFFFFBFCFFFFC : Word) = (0xFFFFFFFFBFC : BitVec 44) ++ (0x3FFFF : BitVec 18) ++ (0 : BitVec 2) := by
  decide +kernel

/-- A step is taken from `w0`. -/
theorem test_w0_steps : ∃ t, step w0 = .next t := ⟨_, rfl⟩

theorem test_witness_StepKeepsMemoryCanonical : w0.mem.wf ∧ ∃ t, step w0 = .next t :=
  ⟨by unfold MemSys.wf; decide +kernel, test_w0_steps⟩

theorem test_witness_StepKeepsCp0Legal : w0.cp0.wf w0.params ∧ ∃ t, step w0 = .next t :=
  ⟨by unfold Cp0.wf; decide +kernel, test_w0_steps⟩

theorem test_witness_StepKeepsTlbUnambiguous : TlbUnambiguous w0 ∧ ∃ t, step w0 = .next t :=
  ⟨by unfold TlbUnambiguous; decide +kernel, test_w0_steps⟩

theorem test_witness_StepKeepsCoreLegal : CoreWf w0 ∧ ∃ t, step w0 = .next t :=
  ⟨by unfold CoreWf; decide +kernel, test_w0_steps⟩

theorem test_witness_NoMultipleMatch : TlbUnambiguous (tbox 3) := by unfold TlbUnambiguous; decide +kernel

/-- User mode, CU0 = 0, CU1 = 0. -/
def user : State := sbox 0x10 (box 0 0)

theorem test_witness_UserChangesNoCp0 :
    (user.mode = some .user ∧ user.cu 0 = false ∧ user.cp0.diag.getLsbD user.params.diagUMode = false)
    ∧ (∃ t, exec (.addu 4 5 2) user = .next t) ∧ ∃ t, exec .tlbr user = .next t :=
  ⟨by decide +kernel, ⟨_, rfl⟩, _, rfl⟩

theorem test_witness_ExceptionEntry : (box 0 0).exl = false ∧ (sbox 2 (box 0 0)).exl = true := by decide +kernel

theorem test_witness_ResetMeetsInvariants : Memory.wf [⟨0x1FC00000, 0x24⟩, ⟨0x1FC00001, 0x02⟩] = true := by
  decide +kernel

/-- Outside a slot and in one. -/
theorem test_witness_NmiEntry : ∀ slot : Bool,
    let s : State := { State.reset with nmi := true, inSlot := slot }
    s.mode ≠ none ∧ s.nmi = true ∧ s.inSlot = slot := by decide +kernel

/-- A software interrupt 0 pending with the given Status. -/
def soft (status : BitVec 32) : State := sbox status { box 0 0 with cp0 := { (box 0 0).cp0 with cause := 0x100 } }
/-- The timer interrupt, IP[7], pending with the given Status. -/
def timer (status : BitVec 32) : State := sbox status { box 0 0 with cp0 := { (box 0 0).cp0 with timer := true } }

theorem test_witness_InterruptTaken :
    (∀ s ∈ [soft 0x101, timer 0x8001], s.mode ≠ none ∧ s.nmi = false ∧ s.cp0.status.getLsbD 0 = true
      ∧ s.cp0.status.getLsbD 1 = false ∧ s.cp0.status.getLsbD 2 = false
      ∧ ∃ k, k < 8 ∧ s.causeView.getLsbD (8 + k) = true ∧ s.cp0.status.getLsbD (8 + k) = true)
    ∧ (soft 0x101).causeView.getLsbD 8 = true ∧ (timer 0x8001).causeView.getLsbD 15 = true := by decide +kernel
theorem test_witness_InterruptTaken_not :
    (∀ s ∈ [soft 0x100, soft 0x103, soft 0x105, soft 0x001], s.mode ≠ none ∧ s.nmi = false)
    ∧ (soft 0x100).cp0.status.getLsbD 0 = false ∧ (soft 0x103).cp0.status.getLsbD 1 = true
    ∧ (soft 0x105).cp0.status.getLsbD 2 = true
    ∧ ∀ k, k < 8 → (soft 0x001).causeView.getLsbD (8 + k) = true → (soft 0x001).cp0.status.getLsbD (8 + k) = false := by
  decide +kernel

/-- A Count that has stood still for any number of steps. -/
theorem test_witness_InterruptLines (n : Nat) :
    ∃ t : State, t = { box 0 0 with cp0 := { (box 0 0).cp0 with countWait := n } } ∧ n ≤ t.cp0.countWait :=
  ⟨_, rfl, le_rfl⟩

theorem test_witness_EretReturns : (box 0 0).cp0Usable = true ∧ (box 0 0).inSlot = false
    ∧ State.reset.cp0Usable = true ∧ State.reset.erl = true := by decide +kernel

/-- The exact results at both ends of the range, in the states of the tests above. -/
theorem test_witness_OverflowArithmetic :
    Fits 32 ((lo32 0x7FFFFFFE).toInt + (1 : Imm16).toInt) ∧ ¬Fits 32 ((lo32 0x7FFFFFFF).toInt + (1 : Imm16).toInt)
    ∧ Fits 32 ((lo32 0x80000001).toInt - (lo32 1).toInt) ∧ ¬Fits 32 ((lo32 0x80000000).toInt - (lo32 1).toInt)
    ∧ Fits 64 ((0x7FFFFFFFFFFFFFFE : Word).toInt + (1 : Word).toInt)
    ∧ ¬Fits 64 ((0x7FFFFFFFFFFFFFFF : Word).toInt + (1 : Word).toInt)
    ∧ ¬Fits 64 ((0x8000000000000000 : Word).toInt - (1 : Word).toInt) := by
  unfold Fits; decide +kernel

theorem test_witness_LogicCompareMove : (box2 9 7 0).reg 5 = 0 ∧ (box2 9 7 1).reg 5 ≠ 0 := by decide +kernel

theorem test_witness_DivideHiLo : lo32 ((box (-7) 2).reg 5) ≠ 0 ∧ (box (-7) 2).reg 5 ≠ 0
    ∧ lo32 ((box 0xFFFFFFFF80000000 (-1)).reg 4) = 0x80000000 ∧ (lo32 ((box 0xFFFFFFFF80000000 (-1)).reg 5)).toInt = -1
    ∧ ((box 0x8000000000000000 (-1)).reg 5).toInt = -1 := by decide +kernel
theorem test_witness_DivideByZero : lo32 ((box 7 0x100000000).reg 5) = 0 ∧ (box 7 0).reg 5 = 0 := by decide +kernel
theorem test_witness_GodsonMultiplyDivide : lo32 ((box (-7) 2).reg 5) ≠ 0 ∧ (box (-7) 0x100000000).reg 5 ≠ 0 := by
  decide +kernel

theorem test_witness_ConditionalBranches : (box 6 6).inSlot = false := rfl
theorem test_witness_JumpsAndLinks : (box 0xFFFFFFFFA0000202 0).inSlot = false := rfl
theorem test_witness_BranchInSlotStops :
    ∃ s : State, s.inSlot = true ∧ s.cu 1 = true ∧ s.cp0Usable = true :=
  ⟨{ box 0 0 with inSlot := true }, rfl, by decide +kernel, by decide +kernel⟩

theorem test_witness_CallsAndTraps :
    ((box 5 5).reg 5).toInt ≤ ((box 5 5).reg 4).toInt ∧ ¬((box (-1) 1).reg 5).toInt ≤ ((box (-1) 1).reg 4).toInt
    ∧ ((box (-1) 1).reg 5).toNat ≤ ((box (-1) 1).reg 4).toNat ∧ (box 5 5).reg 4 = (box 5 5).reg 5
    ∧ (box 5 6).reg 4 ≠ (box 5 6).reg 5 ∧ (0xFFFF : Imm16).toInt ≤ ((box (-1) 0).reg 4).toInt
    ∧ ((box (-2) 0).reg 4).toInt < (0xFFFF : Imm16).toInt ∧ ((box (-1) 0).reg 4).toInt = (0xFFFF : Imm16).toInt
    ∧ ((box 0 0).reg 4).toNat < (BitVec.ofInt 64 (0xFFFF : Imm16).toInt).toNat := by decide +kernel

/-- A DDR2 operand of 8 bytes at 0x1000 through CKSEG1. -/
def ram : State := box2 0 0xFFFFFFFFA0001000 0 0x8877665544332211
/-- The last doubleword of DDR2 through the uncached XKPHY window. -/
def ramEnd : State := box2 0 0x900000000FFFFFF8 0

/-- The operand at the physical address `pa`, reached with the cache attribute 2. -/
theorem plain_at {s : State} {store aligned : Bool} {va start : Word} {n a : Nat} (pa : PAddr)
    (h : translateData s store aligned va = .ok pa 2 ∧ route s.mem.chip (sameDouble pa start).toNat = .ok (.ddr a)
      ∧ s.mem.chip.ddrReady = true ∧ a + n ≤ s.params.ddrSize := by exact ⟨rfl, rfl, rfl, by decide⟩) :
    PlainRam s store aligned va start n a :=
  ⟨pa, 2, h.1, by decide, by decide, h.2⟩

theorem test_witness_Loads : ∀ n ∈ [1, 2, 4, 8],
    PlainRam ram false (alignedTo n 0xFFFFFFFFA0001000) 0xFFFFFFFFA0001000 0xFFFFFFFFA0001000 n 0x1000
    ∧ ram.reg 4 + BitVec.ofInt 64 (0 : Imm16).toInt = 0xFFFFFFFFA0001000
    ∧ PlainRam ramEnd false (alignedTo n 0x900000000FFFFFF8) 0x900000000FFFFFF8 0x900000000FFFFFF8 n 0xFFFFFF8 := by
  intro n hn
  fin_cases hn <;>
    exact ⟨plain_at 0x1000, by decide +kernel,
      plain_at 0xFFFFFF8⟩

theorem test_witness_Stores : Memory.wf ram.mem.ddr = true ∧ ram.mem.gather = none ∧ ∀ n ∈ [1, 2, 4, 8],
    PlainRam ram true (alignedTo n 0xFFFFFFFFA0001000) 0xFFFFFFFFA0001000 0xFFFFFFFFA0001000 n 0x1000 := by
  refine ⟨by decide +kernel, rfl, ?_⟩
  intro n hn
  fin_cases hn <;> exact plain_at 0x1000

/-- Offsets 0 and 3 of a word, 0 and 7 of a doubleword, for the loads and the stores. -/
theorem test_witness_UnalignedLoads :
    PlainRam (b2 0 0) false true (0xFFFFFFFFA0001000 : Word) 0xFFFFFFFFA0001000 (0 + 1) 0x1000
    ∧ PlainRam (b2 0 3) false true (0xFFFFFFFFA0001003 : Word) (0xFFFFFFFFA0001003 - BitVec.ofNat 64 3) (3 + 1) 0x1000
    ∧ PlainRam (b2 0 3) false true (0xFFFFFFFFA0001003 : Word) 0xFFFFFFFFA0001003 (4 - 3) 0x1003
    ∧ PlainRam (b2 0 7) false true (0xFFFFFFFFA0001007 : Word) (0xFFFFFFFFA0001007 - BitVec.ofNat 64 7) (7 + 1) 0x1000
    ∧ PlainRam (b2 0 7) false true (0xFFFFFFFFA0001007 : Word) 0xFFFFFFFFA0001007 (8 - 7) 0x1007
    ∧ PlainRam (b2 0 0) false true (0xFFFFFFFFA0001000 : Word) 0xFFFFFFFFA0001000 (8 - 0) 0x1000 :=
  ⟨plain_at 0x1000, plain_at 0x1003,
   plain_at 0x1003, plain_at 0x1007,
   plain_at 0x1007, plain_at 0x1000⟩

theorem test_witness_UnalignedStores :
    Memory.wf (b2 0 3).mem.ddr = true ∧ (b2 0 3).mem.gather = none
    ∧ PlainRam (b2 0 3) true true (0xFFFFFFFFA0001003 : Word) (0xFFFFFFFFA0001003 - BitVec.ofNat 64 3) (3 + 1) 0x1000
    ∧ PlainRam (b2 0 0) true true (0xFFFFFFFFA0001000 : Word) 0xFFFFFFFFA0001000 (4 - 0) 0x1000
    ∧ PlainRam (b2 0 7) true true (0xFFFFFFFFA0001007 : Word) (0xFFFFFFFFA0001007 - BitVec.ofNat 64 7) (7 + 1) 0x1000
    ∧ PlainRam (b2 0 7) true true (0xFFFFFFFFA0001007 : Word) 0xFFFFFFFFA0001007 (8 - 7) 0x1007 :=
  ⟨by decide +kernel, rfl, plain_at 0x1003,
   plain_at 0x1000, plain_at 0x1007,
   plain_at 0x1007⟩

/-- A misaligned address, an unmapped one, and an uncached one. -/
theorem test_witness_LoadToRegisterZero :
    (∀ n ∈ [2, 4, 8], ∃ e, translate ram .load (alignedTo n 0xFFFFFFFFA0001001) 0xFFFFFFFFA0001001 = .exc e)
    ∧ (∃ e, translate ram .load (alignedTo 1 0) 0 = .exc e)
    ∧ ∀ n ∈ [1, 2, 4, 8], translate ram .load (alignedTo n 0xFFFFFFFFA0001000) 0xFFFFFFFFA0001000 = .ok 0x1000 2 := by
  refine ⟨?_, ⟨.tlbRefill false 0, by decide +kernel⟩, ?_⟩
  · intro n hn
    fin_cases hn <;> exact ⟨.addressError false 0xFFFFFFFFA0001001, by decide +kernel⟩
  · intro n hn
    fin_cases hn <;> decide +kernel

/-- A watched doubleword of `ram`, for stores (bit 0) and loads (bit 1). -/
def watching (bits : Word) : State := { ram with cp0 := { ram.cp0 with watch := 0xFFFFFFFFA0001000 ||| bits } }

/-- The link held on another address than the operand's. -/
theorem test_witness_LinkedAccesses_other :
    let s := { ram with llBit := true, llAddr := 0x2000 }
    Memory.wf s.mem.ddr = true ∧ s.mem.gather = none ∧ s.llBit = true ∧ ∀ n ∈ [4, 8],
      PlainRam s true (alignedTo n 0xFFFFFFFFA0001000) 0xFFFFFFFFA0001000 0xFFFFFFFFA0001000 n 0x1000 := by
  refine ⟨by decide +kernel, rfl, rfl, ?_⟩
  intro n hn
  fin_cases hn <;> exact plain_at 0x1000

/-- The link held on the operand's address, watched and not, and no link. -/
theorem test_witness_LinkedAccesses :
    PlainRam ram false (alignedTo 4 0xFFFFFFFFA0001000) 0xFFFFFFFFA0001000 0xFFFFFFFFA0001000 4 0x1000
    ∧ PlainRam ram false (alignedTo 8 0xFFFFFFFFA0001000) 0xFFFFFFFFA0001000 0xFFFFFFFFA0001000 8 0x1000
    ∧ (let s := { ram with llBit := true, llAddr := 0x1000 }
       Memory.wf s.mem.ddr = true ∧ s.mem.gather = none ∧ s.llBit = true ∧ ∀ n ∈ [4, 8],
        PlainRam s true (alignedTo n 0xFFFFFFFFA0001000) 0xFFFFFFFFA0001000 0xFFFFFFFFA0001000 n 0x1000
        ∧ translateData s true (alignedTo n 0xFFFFFFFFA0001000) 0xFFFFFFFFA0001000 = .ok s.llAddr 2)
    ∧ (let s := { watching 1 with llBit := true, llAddr := 0x1000 }
       s.llBit = true ∧ (0xFFFFFFFFA0001000 : Word).extractLsb' 3 61 = s.cp0.watch.extractLsb' 3 61
        ∧ s.cp0.watch.getLsbD 0 = true
        ∧ ∀ n ∈ [4, 8], translate s .store (alignedTo n 0xFFFFFFFFA0001000) 0xFFFFFFFFA0001000 = .ok s.llAddr 2)
    ∧ (watching 1).llBit = false
    ∧ ∀ n ∈ [4, 8], translate (watching 1) .store (alignedTo n 0xFFFFFFFFA0001000) 0xFFFFFFFFA0001000 = .ok 0x1000 2 := by
  refine ⟨plain_at 0x1000,
    plain_at 0x1000, ⟨by decide +kernel, rfl, rfl, ?_⟩,
    by decide +kernel, rfl, by decide +kernel⟩
  intro n hn
  fin_cases hn <;> exact ⟨plain_at 0x1000, by decide +kernel⟩

theorem test_witness_FloatingLoadsStores :
    (ram.cu 1 = true ∧ ram.doubleOk 2 = true ∧ (sbox 0x34000000 ram).doubleOk 3 = true
      ∧ Memory.wf ram.mem.ddr = true) ∧ ram.mem.gather = none ∧ ∀ n ∈ [4, 8], ∀ st,
      PlainRam ram st (alignedTo n 0xFFFFFFFFA0001000) 0xFFFFFFFFA0001000 0xFFFFFFFFA0001000 n 0x1000 := by
  refine ⟨by decide +kernel, rfl, ?_⟩
  intro n hn st
  fin_cases hn <;> cases st <;> exact plain_at 0x1000

/-- The gathered line 0x1000, with its first and last byte held. -/
def gathered : State := { ram with mem := { ram.mem with gather := some { line := 0x80, data := 5, held := 0x80000001 } } }

/-- Nothing gathered; gathered bytes that go out to DDR2. -/
theorem test_witness_SyncDrains : ram.mem.gather = none ∧ (∃ m, drainGather gathered.ctx gathered.mem = .ok () m)
    ∧ Memory.wf gathered.mem.ddr = true ∧ gathered.mem.chip.ddrReady = true
    ∧ 0x1000 + 32 ≤ gathered.params.ddrSize
    ∧ ∀ k, k < 32 → route gathered.mem.chip ((0x80 : BitVec 35) ++ BitVec.ofNat 5 k : PAddr).toNat = .ok (.ddr (0x1000 + k)) :=
  ⟨rfl, ⟨_, rfl⟩, by decide +kernel, rfl, by decide +kernel, by decide +kernel⟩

/-- A data-cache line of physical 0x1000, and an empty one. -/
def lineD (cs : BitVec 2) (data : BitVec 256) : DLine := { w := false, cs := cs, tag := 1, way := 2, data := data }
def emptyD : DLine := { w := false, cs := 0, tag := 1, way := 0, data := 0 }
/-- A level-2 line of physical 0x1000, and an empty one. -/
def lineS (st : BitVec 2) (data : BitVec 256) : SLine := { st := st, tag := 0, data := data }

/-- Every place of physical 0x1000 in the caches set: `d` in way 0 of data set 128, `l` in way 2 of the
level-2 set, every other one empty; r4 an address of it. -/
def cached (va : Word) (d : DLine) (l : SLine) : State :=
  let r := box2 0x1122334455667788 va 0
  let m1 := (l1Places 0x1000).foldl (fun m p => dSet m p.1 p.2 emptyD) r.mem
  let m2 := [0, 1, 2, 3].foldl (fun m w => sSet m 128 w (lineS 0 0)) (dSet m1 128 0 d)
  { r with mem := { sSet m2 128 2 l with coldI := [], coldD := [], coldS := [] } }

/-- A cached address in r4 before the caches are initialised, and TagLo. -/
def tagged (lo : BitVec 32) : State :=
  let r := box 0x9800000000001000 0
  { r with cp0 := { r.cp0 with tagLo := lo } }

/-- A load and a store that hit the data cache (20_memory.md R292). -/
theorem test_cached_hit :
    r2Is 0x0102030405060708 (.ld 4 2 0) (cached 0x9800000000001000 (lineD 2 0x0102030405060708) (lineS 1 0)) = true
    ∧ gives (.sb 4 2 31) (cached 0x9800000000001000 (lineD 2 5) (lineS 1 0))
      (fun t => dGet t.mem 128 0 == lineD 3 (0x88 <<< 248 ||| 5) && readByte t.mem.ddr 0x101F == 0) = true := by
  decide +kernel
/-- A cached access before the caches are initialised, to register 0 too (20_memory.md R299). -/
theorem test_cached_cold : exec (.ld 4 2 0) (box 0x9800000000001000 0) = .fault .cacheUninitialised
    ∧ exec (.ld 4 0 0) (box 0x9800000000001000 0) = .fault .cacheUninitialised := ⟨rfl, rfl⟩
/-- Index Store Tag (D) of the state 00 initialises line 128 * 4, of a valid state none
(70_reset_and_hazards.md R1000). -/
theorem test_store_tag_warms :
    gives (.cache 4 9 0) (box 0x9800000000001000 0) (fun t => t.mem.coldD == [(0, 512), (513, 2048)]) = true
    ∧ gives (.cache 4 9 0) (tagged 0x40) (fun t => t.mem.coldD == [(0, 2048)] && (dGet t.mem 128 0).cs == 1) = true := by
  decide +kernel
/-- Unaligned, linked and floating forms that hit the data cache (20_memory.md R292). -/
theorem test_cached_forms :
    r2Is 0x0607084455667788 (.ldl 4 2 0) (cached 0x9800000000001002 (lineD 2 0x0102030405060708) (lineS 1 0)) = true
    ∧ gives (.scd 4 2 0) { cached 0x9800000000001000 (lineD 2 5) (lineS 1 0) with llBit := true, llAddr := 0x1000 }
      (fun t => t.reg 2 == 1 && !t.llBit && dGet t.mem 128 0 == lineD 3 0x1122334455667788) = true
    ∧ gives (.ldc1 4 6 0) (cached 0x9800000000001000 (lineD 2 7) (lineS 1 0)) (fun t => t.fpr[6] == 7) = true := by
  decide +kernel

/-- The hypotheses of the unaligned, the linked and the floating forms, at both ends of a doubleword. -/
theorem test_witness_CachedAccesses_forms :
    (∀ st, CacheHit (cached 0x980000000000101F (lineD 3 5) (lineS 1 0)) st true 0x980000000000101F 0)
    ∧ (∀ st, CacheHit (cached 0x9800000000001018 (lineD 3 5) (lineS 1 0)) st true 0x9800000000001018 0)
    ∧ let s := { cached 0x9800000000001018 (lineD 2 5) (lineS 1 0) with llBit := true, llAddr := 0x1018 }
      s.cu 1 = true ∧ s.doubleOk 2 = true ∧ s.llBit = true
      ∧ ∀ n ∈ [4, 8], ∀ st, CacheHit s st (alignedTo n 0x9800000000001018) 0x9800000000001018 0
        ∧ translateData s st (alignedTo n 0x9800000000001018) 0x9800000000001018 = .ok s.llAddr 3 := by
  refine ⟨fun st => ⟨0x101F, ?_, rfl, by decide, by decide +kernel⟩,
    fun st => ⟨0x1018, ?_, rfl, by decide, by decide +kernel⟩, by decide +kernel, by decide +kernel, rfl,
    fun n hn st => ⟨⟨0x1018, ?_, rfl, by decide, by decide +kernel⟩, ?_⟩⟩
  · revert st; decide +kernel
  · revert st; decide +kernel
  · revert st; revert n; decide +kernel
  · revert st; revert n; decide +kernel

theorem test_witness_CachedAccesses :
    (∀ n ∈ [1, 2, 4, 8], ∀ st, CacheHit (cached 0x9800000000001018 (lineD 2 5) (lineS 1 0)) st
      (alignedTo n 0x9800000000001018) 0x9800000000001018 0)
    ∧ (∀ st, CacheHit (cached 0x980000000000101F (lineD 3 5) (lineS 1 0)) st
      (alignedTo 1 0x980000000000101F) 0x980000000000101F 0)
    ∧ ram.mem.gather = none
    ∧ (∀ n ∈ [1, 2, 4, 8], translateData gathered true (alignedTo n 0xB800000000001008) 0xB800000000001008 = .ok 0x1008 7)
    ∧ (∀ g, gathered.mem.gather = some g → g.line = (0x1008 : PAddr).extractLsb' 5 35)
    ∧ ∃ j, j < 32 ∧ (j < 8 ∨ 8 + 8 ≤ j) ∧ ∀ g, gathered.mem.gather = some g → g.held.getLsbD j = false := by
  refine ⟨fun n hn st => ⟨0x1018, ?_, rfl, by decide, by decide +kernel⟩,
    fun st => ⟨0x101F, ?_, rfl, by decide, by decide +kernel⟩, rfl, by decide +kernel, ?_, 1, by decide, by decide, ?_⟩
  · revert st; revert n; decide +kernel
  · revert st; decide +kernel
  · rintro g ⟨⟩; rfl
  · rintro g ⟨⟩; rfl

/-- Of the places of physical 0x1000 only (128, 0) can be dirty, and is when `d` is. -/
theorem test_cached_dirty : ∀ d ∈ [lineD 2 5, lineD 3 5], ∀ l ∈ [lineS 1 7, lineS 3 7], ∀ p ∈ l1Places 0x1000,
    (dGet (cached 0x9800000000001002 d l).mem p.1 p.2).cs = 3 → p = (128, 0) ∧ d.cs = 3 := by decide +kernel

/-- CACHE on cached addresses: a clean and a dirty line selected or hit, no hit, a level-2 line with and
without a dirty copy, and none. -/
theorem test_witness_CacheTransfers :
    (∀ d ∈ [lineD 2 5, lineD 3 5], ∀ l ∈ [lineS 0 0, lineS 1 7, lineS 3 7],
      let s := cached 0x9800000000001002 d l
      s.cp0Usable = true ∧ s.reg 4 + BitVec.ofInt 64 (0 : Imm16).toInt = 0x9800000000001002
      ∧ translate s .load true 0x9800000000001002 = .ok 0x1002 3 ∧ s.mem.chip.disableScache = false
      ∧ (∀ v, v < 4 → ((dGet s.mem 128 v).cs ≠ 0 ∧ (dGet s.mem 128 v).tag = 1 ↔ v = 0))
      ∧ (dGet s.mem 128 0).cs = d.cs ∧ (sGet s.mem 128 2).st = l.st
      ∧ (l.st ≠ 0 → ∀ v, v < 4 → ((sGet s.mem 128 v).st ≠ 0 ∧ (sGet s.mem 128 v).tag = 0 ↔ v = 2))
      ∧ (l.st = 0 → ∀ v, v < 4 → (sGet s.mem 128 v).st = 0)
      ∧ route s.mem.chip 0x1000 = .ok (.ddr 0x1000) ∧ s.mem.chip.ddrReady = true
      ∧ 0x1000 + 32 ≤ s.params.ddrSize ∧ Memory.wf s.mem.ddr = true)
    ∧ (∀ v, v < 4 → (dGet (cached 0x9800000000001002 (lineD 0 5) (lineS 1 7)).mem 128 v).cs = 0)
    ∧ ∀ d ∈ [lineD 2 5, lineD 3 5], ∀ l ∈ [lineS 1 7, lineS 3 7], ∀ q v, (q < 512 ∧ q % 128 = 0) → v < 4 →
      (dGet (cached 0x9800000000001002 d l).mem q v).cs = 3 → (q, v) = (128, 0) ∧ d.cs = 3 :=
  ⟨by decide +kernel, by decide +kernel, fun d hd l hl q v hq hv =>
    test_cached_dirty d hd l hl (q, v) (mem_l1Places.2 ⟨hv, hq.1, hq.2⟩)⟩

/-- Misaligned operands, a misaligned pc, and a watched doubleword. -/
theorem test_witness_MisalignedOrWatched : ram.mode ≠ none
    ∧ (ram.reg 4 + BitVec.ofInt 64 (1 : Imm16).toInt).toNat % 2 ≠ 0
    ∧ (ram.reg 4 + BitVec.ofInt 64 (2 : Imm16).toInt).toNat % 4 ≠ 0
    ∧ (ram.reg 4 + BitVec.ofInt 64 (4 : Imm16).toInt).toNat % 8 ≠ 0
    ∧ ram.cu 1 = true ∧ ram.doubleOk 2 = true
    ∧ (let s := { ram with pc := ram.pc + 2 }
       s.mode ≠ none ∧ s.pc.toNat % 4 ≠ 0)
    ∧ (watching 3).reg 4 + BitVec.ofInt 64 (0 : Imm16).toInt = 0xFFFFFFFFA0001000
    ∧ (0xFFFFFFFFA0001000 : Word).extractLsb' 3 61 = (watching 3).cp0.watch.extractLsb' 3 61
    ∧ (watching 3).cp0.watch.getLsbD 0 = true ∧ (watching 3).cp0.watch.getLsbD 1 = true
    ∧ (watching 3).cu 1 = true ∧ (watching 3).doubleOk 2 = true
    ∧ ∀ n ∈ [1, 2, 4, 8], ∀ acc ∈ [Access.load, .store],
      translate (watching 3) acc (alignedTo n 0xFFFFFFFFA0001000) 0xFFFFFFFFA0001000 = .ok 0x1000 2 := by
  decide +kernel

theorem test_witness_KernelUnmappedSegments : State.reset.mode = some .kernel
    ∧ ((0x7FFFFFFFC : BitVec 35) ++ (0x1FFFFFFC : BitVec 29)).toNat % 4 = 0
    ∧ ((2 : BitVec 2) ++ (0x3FFFFFFFFFFFFFFC : BitVec 62)).toNat % 4 = 0
    ∧ (sbox 0x08 (box 0 0)).mode = some .supervisor ∧ user.mode = some .user := by decide +kernel

/-- Entry 5's even page replaced. -/
def tpage (p : TlbPage) : State := { tbox 3 with tlb := (tbox 3).tlb.set 5 { (tbox 3).tlb[5] with even := p } }

/-- A fetch from a page with V = 0 and E = 1: TLB invalid (20_memory.md R278), or with `noExecFirst` the
address error (60_exceptions.md R836); with V = 1 and E = 1 the address error (R286). -/
theorem test_fetch_invalid_noexec :
    let s := tpage (TlbPage.mk 1 2 true false true)
    jtlb s .fetch 0x02000ABC = .exc (.tlbInvalid false 0x02000ABC)
    ∧ jtlb { s with params := { noExecFirst := true } } .fetch 0x02000ABC = .exc (.addressError false 0x02000ABC)
    ∧ jtlb (tpage (TlbPage.mk 1 2 true true true)) .fetch 0x02000ABC = .exc (.addressError false 0x02000ABC) := by
  decide +kernel

theorem test_witness_MappedAccess :
    sameSize (tbox 3) = true ∧ tlbHits (tbox 3) 0x02002000 = [] ∧ tlbHits (tbox 3) 0x02000ABC = [5]
    ∧ (tbox 3).tlb[5].even.v = true ∧ (tbox 3).tlb[5].even.d = true ∧ (tbox 3).tlb[5].even.e = false
    ∧ ∀ p ∈ [TlbPage.mk 1 2 true false false, TlbPage.mk 1 2 false true false, TlbPage.mk 1 2 true true true,
        TlbPage.mk 1 2 true false true],
      sameSize (tpage p) = true ∧ tlbHits (tpage p) 0x02000ABC = [5] ∧ (tpage p).tlb[5].even = p := by
  decide +kernel

/-- The box with one held ITLB page for 0x02000000, of the given page mask. -/
def ibox (mask : BitVec 12) (p : TlbPage) : State :=
  { tbox 3 with itlb := [{ r := 0, vpn := 0x2000, g := false, asid := 3, mask := mask, page := p }] }

/-- A fetch with a held page that is readable, invalid, not executable, of another size; with none held. -/
theorem test_witness_MappedAccess_itlb :
    (∀ p ∈ [TlbPage.mk 7 2 true true false, TlbPage.mk 7 2 true false false, TlbPage.mk 7 2 true true true,
        TlbPage.mk 7 2 true false true],
      ∀ m ∈ [(0 : BitVec 12), 3], let s := ibox m p
      s.mode = some .kernel ∧ (0x02000ABC : Word).toNat % 4 = 0 ∧ sameSize s = true
      ∧ segment (s.cp0.config.extractLsb' 0 3) .kernel 0x02000ABC = some .mapped
      ∧ s.cp0.pageMask.extractLsb' 13 12 = 0
      ∧ ∀ e ∈ s.itlb, e.page = p ∧ e.mask = m ∧ e.r = (0x02000ABC : Word).extractLsb' 62 2
        ∧ e.asid = s.cp0.entryHi.extractLsb' 0 8
        ∧ e.vpn &&& ~~~((0 : BitVec 16) ++ m) = (0x02000ABC : Word).extractLsb' 12 28 &&& ~~~((0 : BitVec 16) ++ m))
    ∧ (tbox 3).itlb = [] ∧ (tbox 3).tlb[5].mask = (tbox 3).cp0.pageMask.extractLsb' 13 12 := by
  decide +kernel

theorem test_witness_WindowTranslation :
    let c := Chip.reset {}
    let two := { c with winRegs := c.winRegs.set 1 0 }
    let route3 := { c with winRegs := c.winRegs.set 8 3 }
    throughWindows c 0 0x20000000 = .ok .miss ∧ throughWindows c 0 0x0FFFFFFF = .ok (.ddr 0x0FFFFFFF)
    ∧ throughWindows c 0 0x10000000 = .ok (.io 0x10000000) ∧ throughWindows two 0 0x1000 = .error .windowOverlap
    ∧ throughWindows route3 0 0x1000 = .error .windowRoute ∧ throughWindows c 12 0x8FFFFFFF = .ok (.ddr 0x0FFFFFFF) :=
  ⟨rfl, rfl, rfl, rfl, rfl, rfl⟩

theorem test_witness_Cp0Moves : (box 0 0).cp0Usable = true ∧ user.cp0Usable = false
    ∧ lo32 ((box 7 0).reg 4) ≠ (box 7 0).cp0.compare
    ∧ (box 0 0).reg 4 &&& diagRefused (box 0 0).params = 0
    ∧ (box 0xFFFFFFFFFFFFFFFF 0).reg 4 &&& diagRefused (box 0 0).params ≠ 0 := by decide +kernel

/-- The entry Index or Random names, alone in matching an address and not; a match in region 10, where
the reset entries lie, and an illegal mask. -/
theorem test_witness_TlbInstructions :
    (tbox 0x02000003).cp0Usable = true ∧ tlbHits (tbox 0x02000003) (tbox 0x02000003).cp0.entryHi = [5]
    ∧ tlbHits (tbox 0x02000004) (tbox 0x02000004).cp0.entryHi = [] ∧ legalMask 0 = true ∧ legalMask 1 = false
    ∧ (∀ j : Fin 64, j.val ≠ 5 → overlaps (entryOfCp0 (tbox 0x02000003)) (tbox 0x02000003).tlb[j] = false)
    ∧ (∀ j : Fin 64, j.val ≠ 63 → overlaps (entryOfCp0 (tbox 0x03000003)) (tbox 0x03000003).tlb[j] = false)
    ∧ overlaps (entryOfCp0 (tbox 0x02000003)) (tbox 0x02000003).tlb[5] = true
    ∧ overlaps (entryOfCp0 (tbox 0x800000000000E000)) (tbox 0x800000000000E000).tlb[7] = true := by decide +kernel
/-- A second match in region 10 stops too (20_memory.md R279). -/
theorem test_tlbwi_duplicate : exec .tlbwi (tbox 0x800000000000E000) = .fault .tlbMultipleMatch := rfl

theorem test_witness_CacheIndexOperations :
    (box 0x9800000000001021 0).cp0Usable = true
    ∧ translate (box 0x9800000000001021 0) .load true 0x9800000000001021 = .ok 0x1021 3
    ∧ (box 0x9800000000001021 0).reg 4 + BitVec.ofInt 64 (0 : Imm16).toInt = 0x9800000000001021 := by decide +kernel

theorem test_witness_CoprocessorUnusable :
    user.cp0Usable = false ∧ (sbox 0x08 (box 0 0)).cp0Usable = false ∧ (sbox 0x08 (box 0 0)).mode ≠ some .user
    ∧ user.cp0.diag.getLsbD user.params.diagUMode = false ∧ (1 : Reg) ∉ ([0x11, 0x15, 0x13, 0x17] : List Reg)
    ∧ user.cu 1 = false ∧ (sbox 0x10000000 (box 0 0)).cu 1 = false := by decide +kernel

/-- CP1 usable, even registers, both units on; an inexact sum does not trap, and with Enable I it does. -/
theorem test_witness_FloatingArithmetic :
    let s := fbox 0x3F800000 0x33800000
    let t := fbox 0x3F800000 0x33800000 0 0x80
    let o := fpAdd .single (fpCtl s.fcr31) (s.fprS 2).toNat (s.fprS 4).toNat
    s.cu 1 = true ∧ s.doubleOk 2 = true ∧ s.doubleOk 4 = true ∧ s.doubleOk 6 = true ∧ s.noDivide = false
    ∧ s.noSqrt = false ∧ fcrTraps s.fcr31 o.causes = false ∧ fcrTraps t.fcr31 o.causes = true
    ∧ (fbox 1 0).cu 1 = true ∧ fcrTraps 0 (fpNegate .single 1).causes = true := by decide +kernel

theorem test_witness_FloatingMultiplyAdd :
    mbox.cu 1 = true ∧ mbox.doubleOk 2 = true ∧ mbox.doubleOk 4 = true ∧ mbox.doubleOk 6 = true
    ∧ fcrTraps mbox.fcr31 (fpMadd .double (fpCtl mbox.fcr31) false (mbox.fprAt 2).toNat (mbox.fprAt 4).toNat
        (mbox.fprAt 6).toNat).causes = false
    ∧ fcrTraps 0 (fpMadd .single (fpCtl 0) false 0x3F800000 0x3F800000 1).causes = true := by decide +kernel

/-- Operands ABS and NEG keep the bits of, and a NaN and another result of a multiply-add. -/
theorem test_witness_FloatingArithmetic_values :
    (∀ a ∈ [0x3F800000, 0xBF800000, 0, 0xFF800000], a < 2 ^ (signBit .single + 1) ∧ fpSubnormal .single a = false
      ∧ fpNan .single a = false)
    ∧ (fpAbs .single 0xBF800000).bits < 2 ^ 32
    ∧ fpNan .single (fpMadd .single (fpCtl 0) false 0 0x7F800000 0).bits = true
    ∧ fpNan .single (fpMadd .single (fpCtl 0) false 0x3F800000 0x3F800000 0x3F800000).bits = false := by decide +kernel

theorem test_witness_FloatingConversions :
    mbox.cu 1 = true ∧ mbox.doubleOk 2 = true ∧ mbox.doubleOk 6 = true
    ∧ fcrTraps 0 (fpToInt .single 32 .nearest 0x3F800000).causes = false
    ∧ fcrTraps 0 (fpToInt .single 32 .nearest 1).causes = true := by decide +kernel
/-- A value in range, one out of range, an infinity, both kinds of NaN and a subnormal. -/
theorem test_witness_FloatingConversions_values :
    (fpVal .single 0x40200000).finite ∧ (fpVal .single 0x4F000000).finite ∧ ¬(fpVal .single 0x7F800000).finite
    ∧ (∀ a ∈ [0x40200000, 0x4F000000], fpSubnormal .single a = false) ∧ fpVal .single 0xFF800000 = .inf true
    ∧ fpSignaling .single 0x7FC00000 = true ∧ fpQuiet .single 0x7FBFFFFF = true ∧ fpSubnormal .single 1 = true :=
  ⟨trivial, trivial, id, by decide +kernel⟩

theorem test_witness_FloatingCompares :
    let s := fbox 0x7FC00000 0x3F800000
    let t := fbox 0x7FC00000 0x3F800000 0 0x800
    s.cu 1 = true ∧ s.doubleOk 2 = true ∧ s.doubleOk 4 = true ∧ (cmpS s 12 2 4).1 = true
    ∧ fcrTraps s.fcr31 causeV = false ∧ fcrTraps t.fcr31 causeV = true ∧ t.cu 1 = true := by decide +kernel

theorem test_witness_ComparePredicate :
    (fpVal .single 0x3F800000).finite ∧ (fpVal .double 1).finite ∧ fpNan .single 0x7FBFFFFF = true
    ∧ fpNan .double 0x7FF8000000000000 = true := ⟨trivial, trivial, by decide +kernel, by decide +kernel⟩

/-- 1 + 2.5, 3 - 2, 0.5 * 0.5, 3 / 2 and the root of 4 are exact. -/
theorem test_witness_FloatingExactResults :
    (fpVal .single 0x3F800000).finite ∧ (fpVal .single 0x40200000).finite
    ∧ (fpAdd .single (fpCtl 0) 0x3F800000 0x40200000).causes = 0 ∧ (fpSub .single (fpCtl 0) 0x40400000 0x40000000).causes = 0
    ∧ (fpMul .single (fpCtl 0) 0x3F000000 0x3F000000).causes = 0 ∧ (fpDiv .single (fpCtl 0) 0x40400000 0x40000000).causes = 0
    ∧ (fpSqrt .double (fpCtl 0) 0x4010000000000000).causes = 0 :=
  ⟨trivial, trivial, by decide +kernel⟩
/-- 2 * 3 + 1 and 2 * 3 - 1; 1.5 to double; the integer -1. -/
theorem test_witness_FloatingExactResults_more :
    (fpMadd .double (fpCtl 0) false 0x4000000000000000 0x4008000000000000 0x3FF0000000000000).causes = 0
    ∧ (fpMadd .double (fpCtl 0) true 0x4000000000000000 0x4008000000000000 0x3FF0000000000000).causes = 0
    ∧ (fpToFp .single .double (fpCtl 0) 0x3FC00000).causes = 0 ∧ (intToFp .single (fpCtl 0) (-1)).causes = 0 := by
  decide +kernel

/-- Operands of every kind the default results are for: subnormals, both NaNs, infinities, zeros, numbers. -/
theorem test_witness_FloatingExactResults_special :
    fpSubnormal .single 0x80000001 = true ∧ fpQuiet .single 0x7FBFFFFF = true ∧ fpSignaling .single 0x7FC00000 = true
    ∧ (∀ a ∈ [0x7FC00000, 0x80000000, 0xBF800000], fpSubnormal .single a = false ∧ fpQuiet .single a = false)
    ∧ ∀ a ∈ [0xFF800000, 0x7F800000], fpVal .single a = .inf (fpNeg .single a) := by decide +kernel

/-- A zero, a negative number, and sums that are 0. -/
theorem test_witness_FloatingExactResults_zeros :
    let minusOne := (fpVal .single 0xBF800000).rat
    let one := (fpVal .single 0x3F800000).rat
    (fpVal .single 0x80000000).rat = 0 ∧ minusOne < 0 ∧ one = 1 ∧ minusOne + one = 0 ∧ one * minusOne + one = 0 := by
  have z : fpVal .single 0x80000000 = .fin true 0 (-149) := by decide +kernel
  have n : fpVal .single 0xBF800000 = .fin true 8388608 (-23) := by decide +kernel
  have p : fpVal .single 0x3F800000 = .fin false 8388608 (-23) := by decide +kernel
  norm_num [z, n, p, FpVal.rat]

/-- The default results (47_fpu.md R705, R706, R716): inf - inf, 0 * inf, 1 / -0, -inf / 0, -0 + -0, 1 - 1 rounding
down, and the root of -0. -/
theorem test_special_results :
    fpSub .single (fpCtl 0) 0x7F800000 0x7F800000 = { causes := causeV, bits := 0x7FBFFFFF }
    ∧ fpMul .double (fpCtl 0) 0 0x7FF0000000000000 = { causes := causeV, bits := 0x7FF7FFFFFFFFFFFF }
    ∧ fpDiv .single (fpCtl 0) 0x3F800000 0x80000000 = { causes := causeZ, bits := 0xFF800000 }
    ∧ fpDiv .single (fpCtl 0) 0xFF800000 0 = { causes := 0, bits := 0xFF800000 }
    ∧ fpAdd .single (fpCtl 0) 0x80000000 0x80000000 = { causes := 0, bits := 0x80000000 }
    ∧ fpSub .single (fpCtl 3) 0x3F800000 0x3F800000 = { causes := 0, bits := 0x80000000 }
    ∧ fpSqrt .single (fpCtl 0) 0x80000000 = { causes := 0, bits := 0x80000000 } := by decide +kernel

/-- 2^127 + 2^127 exceeds every single, 2^-126 / 2 is below every normal one, 1 + 1 is neither; an inexact
quotient and an inexact root. -/
theorem test_witness_RoundingByMode_range :
    Overflows .single .nearest false |(fpVal .single 0x7F000000).rat + (fpVal .single 0x7F000000).rat|
    ∧ Tiny .single .nearest false |(fpVal .single 0x00800000).rat * (fpVal .single 0x3F000000).rat|
    ∧ ¬Overflows .single .nearest false |(fpVal .single 0x3F800000).rat + (fpVal .single 0x3F800000).rat|
    ∧ ¬Tiny .single .nearest false |(fpVal .single 0x3F800000).rat + (fpVal .single 0x3F800000).rat|
    ∧ (∀ a ∈ [0x7F000000, 0x00800000, 0x3F000000], fpSubnormal .single a = false)
    ∧ (fpDiv .single (fpCtl 0) 0x3F800000 0x40400000).causes = causeI
    ∧ (fpSqrt .single (fpCtl 0) 0x40000000).causes = causeI := by
  have a : fpVal .single 0x7F000000 = .fin false 8388608 104 := by decide +kernel
  have b : fpVal .single 0x00800000 = .fin false 8388608 (-149) := by decide +kernel
  have c : fpVal .single 0x3F000000 = .fin false 8388608 (-24) := by decide +kernel
  have d : fpVal .single 0x3F800000 = .fin false 8388608 (-23) := by decide +kernel
  refine ⟨?_, ?_, ?_, ?_, by decide +kernel⟩ <;>
    simp only [a, b, c, d, FpVal.rat, Overflows, Tiny, expBias, fracBits] <;> norm_num [abs_of_pos]
/-- The results out of range (47_fpu.md R707 to R709): by mode, an infinity or the largest number, a zero or the
smallest normal number, and E without FS. -/
theorem test_range_results :
    fpAdd .single (fpCtl 0) 0xFF000000 0xFF000000 = { causes := causeO ||| causeI, bits := 0xFF800000 }
    ∧ fpAdd .single (fpCtl 2) 0xFF000000 0xFF000000 = { causes := causeO ||| causeI, bits := 0xFF7FFFFF }
    ∧ fpMul .single (fpCtl 0x1000000) 0x80800000 0x3F000000 = { causes := causeU ||| causeI, bits := 0x80000000 }
    ∧ fpMul .single (fpCtl 0x1000003) 0x80800000 0x3F000000 = { causes := causeU ||| causeI, bits := 0x80800000 }
    ∧ (fpMul .single (fpCtl 0) 0x80800000 0x3F000000).causes = causeE := by decide +kernel

/-- 2^24 + 1 in single is a tie, in every mode; 3 is exact. -/
theorem test_witness_RoundingByMode :
    (roundPack .single (fpCtl 0) false 0x1000001 0 false).causes = causeI
    ∧ (roundPack .single (fpCtl 1) true 0x1000001 0 false).causes = causeI
    ∧ (∀ neg, (roundPack .single (fpCtl 2) neg 0x1000001 0 false).causes = causeI)
    ∧ (∀ neg, (roundPack .single (fpCtl 3) neg 0x1000001 0 false).causes = causeI)
    ∧ (roundPack .single (fpCtl 0) false 3 0 false).causes = 0 := by decide +kernel

/-- Inexact: 1 + 2^-24, 1 - 2^-25, 1/3 * 1/3, a multiply-add, 0.1 to single, 2^24 + 1 from an integer. -/
theorem test_witness_RoundingByMode_operations :
    (fpAdd .single (fpCtl 0) 0x3F800000 0x33800000).causes = causeI
    ∧ (fpSub .single (fpCtl 0) 0x3F800000 0x33000000).causes = causeI
    ∧ (fpMul .single (fpCtl 0) 0x3EAAAAAB 0x3EAAAAAB).causes = causeI
    ∧ (fpMadd .single (fpCtl 0) false 0x3EAAAAAB 0x3EAAAAAB 0x3F800000).causes = causeI
    ∧ (fpMadd .single (fpCtl 0) true 0x3EAAAAAB 0x3EAAAAAB 0x3F800000).causes = causeI
    ∧ (fpToFp .double .single (fpCtl 0) 0x3FB999999999999A).causes = causeI
    ∧ (intToFp .single (fpCtl 0) 0x1000001).causes = causeI := by decide +kernel

theorem test_rounding_modes :
    (fpCtl 0).rm = .nearest ∧ (fpCtl 1).rm = .zero ∧ (fpCtl 2).rm = .up ∧ (fpCtl 3).rm = .down := ⟨rfl, rfl, rfl, rfl⟩

theorem test_witness_FloatingMovesAndBranches :
    mbox.cu 1 = true ∧ mbox.doubleOk 2 = true ∧ mbox.doubleOk 6 = true ∧ mbox.inSlot = false
    ∧ fcrTraps 0x1000003 (fcrCauses 0x1000003) = false ∧ fcrTraps 0x10800 (fcrCauses 0x10800) = true
    ∧ fcrTraps 0x20000 (fcrCauses 0x20000) = true := by decide +kernel

/-- Freq_scale = 0, with no line and with an INT line (active low by Intpol = 0) asserted. -/
def sleeping (int : BitVec 4) : State :=
  let r := State.reset
  { r with mem := { r.mem with chip := { r.mem.chip.setIo 32 0x610 with pins := { Pins.quiet with int := int } } } }

theorem test_witness_StandbyWakes :
    (∃ s1, environment (sleeping 0xF) = .ok s1 ∧ (s1.mem.chip.io 32).extractLsb' 0 3 = 0 ∧ s1.nmi = false
      ∧ s1.mem.chip.intisr = 0)
    ∧ ∃ s1, environment (sleeping 0xE) = .ok s1 ∧ (s1.mem.chip.io 32).extractLsb' 0 3 = 0 ∧ s1.nmi = false
      ∧ s1.mem.chip.intisr.getLsbD 11 = true :=
  ⟨⟨_, rfl, by decide +kernel, rfl, by decide +kernel⟩, _, rfl, by decide +kernel, rfl, by decide +kernel⟩

/-- Asleep after START, the DLL not locked and locked. -/
theorem test_witness_StandbyWakes_dll : ∀ ready, ∃ s1,
    environment ((sleeping 0xF).onChip fun c => { c with ddrStarted := true, ddrReady := ready }) = .ok s1
    ∧ (s1.mem.chip.io 32).extractLsb' 0 3 = 0 ∧ s1.nmi = false ∧ s1.mem.chip.ddrStarted = true
    ∧ s1.mem.chip.ddrReady = ready := by
  intro ready
  cases ready <;> exact ⟨_, rfl, by decide +kernel, rfl, rfl, rfl⟩

/-- BAR0 at 0x80000000 under the kernel's 2 GB PCI_Hit0_Sel (95_test_vectors.md A8). -/
theorem test_witness_DmaBypassesCaches :
    let r := ram
    let c := { (r.mem.chip.setIo 20 0x8000000C).setIo 21 0xFFFFFFFF with pciHdr := r.mem.chip.pciHdr.set 4 0x80000000 }
    dmaTarget c 0x81234560 = .ok (.ddr 0x01234560) ∧ c.ddrReady = true ∧ 0x01234560 < r.params.ddrSize
    ∧ Memory.wf r.mem.ddr = true := ⟨rfl, rfl, by decide +kernel, by decide +kernel⟩


/-- START records "DLL not locked" in int_status bit 9, and int_ack bit 9 clears it (61_platform.md R924, R926). -/
theorem test_ddr_int_ack :
    let c := (Chip.reset {}).writeDdr 3 0x0000010000000000
    c.ddrIntStatus.getLsbD 9 = true ∧ (c.writeDdr 16 0x0000000002000000).ddrIntStatus.getLsbD 9 = false := by
  decide +kernel
end Sys2Proof.Tests
end

section
/-! SUPPORT. What a step is made of: the updates of the state that every instruction, exception, event and
end of a step is a sequence of. An invariant is then shown update by update, and not instruction by
instruction. -/

namespace Sys2Proof.Machine

/-! The updates. -/

/-- `t` comes from `s` by the updates steps are made of, each with what the model has checked where it makes
it. A condition of the form "legal before, so legal after" says what is kept without asking for it. -/
inductive Evolves (s : State) : State → Prop where
  | refl : Evolves s s
  | setReg {t : State} (h : Evolves s t) (r : Reg) (v : Word) : Evolves s (t.setReg r v)
  | hiLo {t : State} (h : Evolves s t) (hi lo : Word) : Evolves s { t with hi := hi, lo := lo }
  | fpr {t : State} (h : Evolves s t) (f : Vector Word 32) : Evolves s { t with fpr := f }
  /-- FCR31 with its absent bits kept (10_state.md R120). -/
  | fcr31 {t : State} (h : Evolves s t) (f : BitVec 32)
      (hf : t.fcr31 &&& ~~~fcrMask = 0 → f &&& ~~~fcrMask = 0) : Evolves s { t with fcr31 := f }
  | link {t : State} (h : Evolves s t) (b : Bool) (a : PAddr) : Evolves s { t with llBit := b, llAddr := a }
  /-- On to another instruction, a pending target only with a delay slot (10_state.md R107). -/
  | goTo {t : State} (h : Evolves s t) (pc : Word) (target : Option Word) (slot : Bool)
      (ht : target.isSome = true → slot = true) :
      Evolves s { t with pc := pc, nextPc := target, inSlot := slot }
  /-- The memory system with its canonical form kept (20_memory.md R252). -/
  | mem {t : State} (h : Evolves s t) (m : MemSys) (hm : t.mem.wf → m.wf) : Evolves s { t with mem := m }
  /-- The ITLB with at most sixteen pages (20_memory.md R284). -/
  | itlb {t : State} (h : Evolves s t) (l : List ItlbEntry) (hl : t.itlb.length ≤ 16 → l.length ≤ 16) :
      Evolves s { t with itlb := l }
  /-- TLBWI and TLBWR after their checks (46_cp0_privileged.md R671, R672). -/
  | tlbWrite {t : State} (h : Evolves s t) (i : BitVec 6) (hl : legalMask (entryOfCp0 t).mask = true)
      (ho : ∀ j : Fin 64, j.val ≠ i.toNat → overlaps (entryOfCp0 t) t.tlb[j] = false) :
      Evolves s { t with tlb := t.tlb.set i.toNat (entryOfCp0 t) i.isLt }
  | tlbRead {t : State} (h : Evolves s t) : Evolves s (readTlb t)
  | probeHit {t : State} (h : Evolves s t) (i : Fin 64) :
      Evolves s { t with cp0 := { t.cp0 with index := BitVec.ofNat 32 i.val } }
  | probeMiss {t : State} (h : Evolves s t) (x : BitVec 6) :
      Evolves s { t with cp0 := { t.cp0 with index := 0x80000000 ||| x.setWidth 32 } }
  | cp0Write {t : State} (h : Evolves s t) (n : Reg) (v : Word) :
      Evolves s { t with cp0 := writeCp0 t.params t.cp0 n v }
  | tags {t : State} (h : Evolves s t) (lo hi : BitVec 32) :
      Evolves s { t with cp0 := { t.cp0 with tagLo := lo, tagHi := hi } }
  | exception {t : State} (h : Evolves s t) (e : Exc) : Evolves s (takeException e t)
  | eret {t : State} (h : Evolves s t) : Evolves s (returnFromException t)
  | nmiTaken {t : State} (h : Evolves s t) : Evolves s (takeNmi t)
  | nmi {t : State} (h : Evolves s t) (b : Bool) : Evolves s { t with nmi := b }
  | inputs {t : State} (h : Evolves s t) (l : List (List InputEvent)) : Evolves s { t with inputs := l }
  | tick {t : State} (h : Evolves s t) (n : Nat) : Evolves s { t with tick := n }
  | reset {t : State} (h : Evolves s t) : Evolves s (coldReset t)
  | finished {t : State} (h : Evolves s t) (u : State) : Evolves s (finish u t)

section
variable {s₀ s : State}

theorem evolves_advance (h : Evolves s₀ s) : Evolves s₀ (advance s) := h.goTo _ _ _ nofun

theorem evolves_bump (h : Evolves s₀ s) : Evolves s₀ (bump s) := h.tick _

theorem evolves_setFprAt (h : Evolves s₀ s) (r : Reg) (v : Word) : Evolves s₀ (s.setFprAt r v) := h.fpr _

theorem evolves_setFprS (h : Evolves s₀ s) (r : Reg) (v : BitVec 32) : Evolves s₀ (s.setFprS r v) := by
  unfold State.setFprS
  split
  · exact evolves_setFprAt h _ _
  · split
    · exact evolves_setFprAt h _ _
    · exact evolves_setFprAt h _ _

theorem evolves_onChip (h : Evolves s₀ s) (f : Chip → Chip) : Evolves s₀ (s.onChip f) :=
  h.mem _ fun hw => wf_chip hw _

/-! FCR31's absent bits (10_state.md R120). -/

theorem or_and_eq_zero {w : Nat} {a b m : BitVec w} (ha : a &&& m = 0) (hb : b &&& m = 0) :
    (a ||| b) &&& m = 0 := by
  have h : (a ||| b) &&& m = a &&& m ||| b &&& m := by
    ext i
    simp [Bool.and_or_distrib_right]
  rw [h, ha, hb]
  simp

/-- A field of bits that exist, written into a word, leaves the absent bits alone. -/
theorem merge_and_eq_zero {w : Nat} {mask x v absent : BitVec w} (hm : mask &&& absent = 0)
    (hx : x &&& absent = 0) : merge mask x v &&& absent = 0 := by
  refine or_and_eq_zero ?_ ?_
  · rw [BitVec.and_assoc, BitVec.and_comm (~~~mask), ← BitVec.and_assoc, hx]
    simp
  · rw [BitVec.and_assoc, hm]
    simp

theorem fcrSetCauses_absent {f : BitVec 32} (c : Causes) (h : f &&& ~~~fcrMask = 0) :
    fcrSetCauses f c &&& ~~~fcrMask = 0 := merge_and_eq_zero (by decide) h

theorem fcrSetCc0_absent {f : BitVec 32} (b : Bool) (h : f &&& ~~~fcrMask = 0) :
    fcrSetCc0 f b &&& ~~~fcrMask = 0 := merge_and_eq_zero (by decide) h

theorem fcrSetCc1_absent {f : BitVec 32} (b : Bool) (h : f &&& ~~~fcrMask = 0) :
    fcrSetCc1 f b &&& ~~~fcrMask = 0 := merge_and_eq_zero (by decide) h

theorem fcrAddFlags_absent {f : BitVec 32} (c : Causes) (h : f &&& ~~~fcrMask = 0) :
    fcrAddFlags f c &&& ~~~fcrMask = 0 := by
  have hc : ∀ c : Causes, ((c &&& 0x1F).setWidth 32 <<< 2) &&& ~~~fcrMask = 0 := by decide
  exact or_and_eq_zero h (hc c)

/-! The shared operations. -/

theorem nextIs_ite {P : State → Prop} {c : Prop} [Decidable c] {r r' : Res} (h : NextIs P r)
    (h' : NextIs P r') : NextIs P (if c then r else r') := by
  split
  · exact h
  · exact h'

theorem evolves_writeNext (h : Evolves s₀ s) {r : Reg} {v : Word} :
    NextIs (Evolves s₀) (writeNext r v s) := nextIs_writeNext.2 (evolves_advance (h.setReg r v))

theorem evolves_next_advance (h : Evolves s₀ s) : NextIs (Evolves s₀) (.next (advance s)) :=
  nextIs_next.2 (evolves_advance h)

theorem evolves_raise (h : Evolves s₀ s) {e : Exc} : NextIs (Evolves s₀) (raise e s) :=
  nextIs_raise.2 (h.exception e)

theorem evolves_withCp0 (h : Evolves s₀ s) {r : Res} (hr : NextIs (Evolves s₀) r) :
    NextIs (Evolves s₀) (withCp0 s r) := nextIs_withCp0 (fun _ => hr) fun _ => h.exception _

theorem evolves_withCp1 (h : Evolves s₀ s) {r : Res} (hr : NextIs (Evolves s₀) r) :
    NextIs (Evolves s₀) (withCp1 s r) := nextIs_withCp1 (fun _ => hr) fun _ => h.exception _

/-- A CP1 instruction on 64-bit operands. -/
theorem evolves_withCp1Double (h : Evolves s₀ s) {rs : List Reg} {r : Res} (hr : NextIs (Evolves s₀) r) :
    NextIs (Evolves s₀) (withCp1 s (withDouble s rs r)) :=
  evolves_withCp1 h (nextIs_withDouble fun _ => hr)

theorem evolves_trapIf (h : Evolves s₀ s) {c : Bool} : NextIs (Evolves s₀) (trapIf c s) :=
  nextIs_trapIf (fun _ => evolves_advance h) fun _ => h.exception _

theorem evolves_trapOverflow (h : Evolves s₀ s) {x : Option Word} {r : Reg} :
    NextIs (Evolves s₀) (trapOverflow x r s) :=
  nextIs_trapOverflow (fun v _ => evolves_advance (h.setReg r v)) fun _ => h.exception _

theorem evolves_writeHiLo (h : Evolves s₀ s) {p : Word × Word} : NextIs (Evolves s₀) (writeHiLo p s) :=
  nextIs_writeHiLo.2 (evolves_advance (h.hiLo _ _))

theorem evolves_branch (h : Evolves s₀ s) {taken likely : Bool} {target : Word} :
    NextIs (Evolves s₀) (branch taken likely target s) := by
  refine nextIs_branch fun _ => ?_
  split
  · exact h.goTo _ _ _ fun _ => rfl
  · split
    · exact h.goTo _ _ _ nofun
    · exact h.goTo _ _ _ fun _ => rfl

/-- A branch that links first (43_branch_jump.md R554). -/
theorem evolves_branch_link (h : Evolves s₀ s) {taken likely : Bool} {target : Word} {r : Reg} :
    NextIs (Evolves s₀) (branch taken likely target (link r s)) := evolves_branch (h.setReg r _)

/-! Memory. -/

theorem evolves_mem_of_ok {α : Type} {r : MemRes α} {a : α} {m : MemSys} (h : Evolves s₀ s)
    (hr : s.mem.wf → r.All MemSys.wf) (he : r = .ok a m) : Evolves s₀ { s with mem := m } :=
  h.mem m fun hw => by subst he; exact hr hw

theorem evolves_mem_of_exc {α : Type} {r : MemRes α} {e : Exc} {m : MemSys} (h : Evolves s₀ s)
    (hr : s.mem.wf → r.All MemSys.wf) (he : r = .exc e m) : Evolves s₀ { s with mem := m } :=
  h.mem m fun hw => by subst he; exact hr hw

/-- A memory operation that keeps the canonical form, and what follows it. -/
theorem evolves_afterMem {α : Type} {r : MemRes α} {k : α → State → Res} (h : Evolves s₀ s)
    (hr : s.mem.wf → r.All MemSys.wf) (hk : ∀ a t, Evolves s₀ t → NextIs (Evolves s₀) (k a t)) :
    NextIs (Evolves s₀) (afterMem s r k) :=
  nextIs_afterMem (fun _ _ he => hk _ _ (evolves_mem_of_ok h hr he)) fun e _ he =>
    (evolves_mem_of_exc h hr he).exception e

theorem evolves_prefetch (h : Evolves s₀ s) {al : Bool} {va : Word} :
    NextIs (Evolves s₀) (prefetch al va s) :=
  nextIs_prefetch (evolves_advance h) fun _ _ _ he =>
    evolves_advance (evolves_mem_of_ok h (wf_ensureD _ _ _ _) he)

theorem evolves_loadReg (h : Evolves s₀ s) {base rt : Reg} {offset : Imm16} {n : Nat}
    {ext : BitVec 256 → Word} : NextIs (Evolves s₀) (loadReg base rt offset n ext s) :=
  nextIs_ite (evolves_prefetch h)
    (evolves_afterMem h (wf_memRead _ _ _ _ _) fun _ _ ht => evolves_writeNext ht)

theorem evolves_loadPart (h : Evolves s₀ s) {rt : Reg} {va start : Word} {n : Nat}
    {into : Word → BitVec 256 → Word} : NextIs (Evolves s₀) (loadPart rt va start n into s) :=
  nextIs_ite (evolves_prefetch h)
    (evolves_afterMem h (wf_memRead _ _ _ _ _) fun _ _ ht => evolves_writeNext ht)

theorem evolves_storeMem (h : Evolves s₀ s) {base : Reg} {offset : Imm16} {n : Nat} {v : Word} :
    NextIs (Evolves s₀) (storeMem base offset n v s) :=
  evolves_afterMem h (wf_memWrite _ _ _ _ _ _) fun _ _ ht => evolves_next_advance ht

theorem evolves_storePart (h : Evolves s₀ s) {va start : Word} {n : Nat} {v : Word} :
    NextIs (Evolves s₀) (storePart va start n v s) :=
  evolves_afterMem h (wf_memWrite _ _ _ _ _ _) fun _ _ ht => evolves_next_advance ht

theorem evolves_loadLinked (h : Evolves s₀ s) {base rt : Reg} {offset : Imm16} {n : Nat}
    {ext : BitVec 256 → Word} : NextIs (Evolves s₀) (loadLinked base rt offset n ext s) := by
  unfold loadLinked
  dsimp only
  split
  · exact evolves_afterMem h (wf_readAttr _ _ _ _ _) fun _ _ ht => evolves_writeNext (ht.link _ _)
  · exact evolves_raise h
  · exact nextIs_fault _

theorem evolves_storeConditional (h : Evolves s₀ s) {base rt : Reg} {offset : Imm16} {n : Nat} :
    NextIs (Evolves s₀) (storeConditional base rt offset n s) :=
  nextIs_storeConditional
    (fun _ _ _ _ he => evolves_advance
      (((evolves_mem_of_ok h (wf_writeAttr _ _ _ _ _ _) he).link false s.llAddr).setReg _ _))
    (evolves_advance ((h.link false s.llAddr).setReg _ _)) h.exception
    fun _ _ e _ he => (evolves_mem_of_exc h (wf_writeAttr _ _ _ _ _ _) he).exception e

/-- SYNC (40_load_store.md R434). -/
theorem evolves_execSync (h : Evolves s₀ s) : NextIs (Evolves s₀) (execSync s) :=
  evolves_afterMem h (wf_drainGather _) fun _ _ ht => evolves_next_advance ht

/-- LWC1 and LDC1 after their checks: what is read goes into a floating register. -/
theorem evolves_loadFpr (h : Evolves s₀ s) {al : Bool} {va : Word} {n : Nat} {write : BitVec 256 → State → State}
    (hw : ∀ d t, Evolves s₀ t → Evolves s₀ (write d t)) :
    NextIs (Evolves s₀) (afterMem s (memRead s al va va n) fun d s1 => .next (advance (write d s1))) :=
  evolves_afterMem h (wf_memRead _ _ _ _ _) fun d t ht => evolves_next_advance (hw d t ht)

/-! CP0. -/

theorem evolves_readCp0 (h : Evolves s₀ s) {rd r : Reg} {v : Word} :
    NextIs (Evolves s₀) (readCp0 rd s (writeNext r v s)) :=
  nextIs_ite (evolves_writeNext h) (evolves_withCp0 h (evolves_writeNext h))

theorem evolves_moveToCp0 (h : Evolves s₀ s) {rd : Reg} {v : Word} :
    NextIs (Evolves s₀) (moveToCp0 rd v s) := by
  unfold moveToCp0
  split
  · rename_i s1 hw
    obtain rfl | rfl := cp0Write_ok hw
    · exact evolves_next_advance (h.cp0Write _ _)
    · exact evolves_next_advance ((h.cp0Write _ _).itlb [] fun _ => Nat.zero_le _)
  · exact nextIs_refused _

theorem evolves_probeTlb (h : Evolves s₀ s) : NextIs (Evolves s₀) (probeTlb s) := by
  unfold probeTlb
  split
  · exact evolves_next_advance (h.probeMiss _)
  · exact evolves_next_advance (h.probeHit _)
  · exact nextIs_fault _

theorem evolves_writeTlb (h : Evolves s₀ s) {i : BitVec 6} : NextIs (Evolves s₀) (writeTlb i s) :=
  nextIs_writeTlb fun hl ho => evolves_advance (h.tlbWrite i hl ho)

/-- ERET (46_cp0_privileged.md R673). -/
theorem evolves_execEret (h : Evolves s₀ s) : NextIs (Evolves s₀) (execEret s) :=
  evolves_withCp0 h (nextIs_ite (nextIs_fault _) (nextIs_next.2 h.eret))

/-- CACHE (46_cp0_privileged.md R680). -/
theorem evolves_execCache (h : Evolves s₀ s) {base opn : Reg} {offset : Imm16} :
    NextIs (Evolves s₀) (execCache base opn offset s) := by
  refine nextIs_ite (nextIs_ite (nextIs_fault _) ?_) (evolves_raise h)
  dsimp only
  split
  · exact evolves_raise h
  · exact nextIs_fault _
  · exact nextIs_ite
      (evolves_afterMem h (wf_cacheOp _ _ _ _ _ _) fun _ _ ht => evolves_next_advance (ht.tags _ _))
      (nextIs_fault _)

/-! Floating point. -/

theorem evolves_fpFinish (h : Evolves s₀ s) {o : FpOut} {write : State → State}
    (hw : ∀ t, Evolves s₀ t → Evolves s₀ (write t)) : NextIs (Evolves s₀) (fpFinish s o write) :=
  nextIs_fpFinish
    (evolves_advance (hw _ (h.fcr31 _ fun hf => fcrAddFlags_absent _ (fcrSetCauses_absent _ hf))))
    ((h.fcr31 _ (fcrSetCauses_absent _)).exception _)

theorem evolves_fpFinishS (h : Evolves s₀ s) {fd : Reg} {o : FpOut} : NextIs (Evolves s₀) (fpFinishS s fd o) :=
  evolves_fpFinish h fun _ ht => evolves_setFprS ht _ _

theorem evolves_fpFinishD (h : Evolves s₀ s) {fd : Reg} {o : FpOut} : NextIs (Evolves s₀) (fpFinishD s fd o) :=
  evolves_fpFinish h fun _ ht => evolves_setFprAt ht _ _

theorem evolves_fpFinishC (h : Evolves s₀ s) {r : Bool × Bool} : NextIs (Evolves s₀) (fpFinishC s r) :=
  evolves_fpFinish h fun _ ht => ht.fcr31 _ (fcrSetCc0_absent _)

theorem evolves_fpFinishCPs (h : Evolves s₀ s) {lo hi : Bool × Bool} :
    NextIs (Evolves s₀) (fpFinishCPs s lo hi) :=
  evolves_fpFinish h fun _ ht => ht.fcr31 _ fun hf => fcrSetCc1_absent _ (fcrSetCc0_absent _ hf)

/-- CFC1 (47_fpu.md R769). -/
theorem evolves_execCfc1 (h : Evolves s₀ s) {rt fs : Reg} : NextIs (Evolves s₀) (execCfc1 rt fs s) :=
  evolves_withCp1 h (nextIs_ite (evolves_writeNext h)
    (nextIs_ite (evolves_writeNext h) (nextIs_fault _)))

/-- CTC1: the bits of FCR31 that exist (47_fpu.md R770). -/
theorem evolves_execCtc1 (h : Evolves s₀ s) {rt fs : Reg} : NextIs (Evolves s₀) (execCtc1 rt fs s) := by
  have hf : Evolves s₀ { s with fcr31 := lo32 (s.reg rt) &&& fcrMask } :=
    h.fcr31 _ fun _ => by simp [BitVec.and_assoc]
  exact evolves_withCp1 h (nextIs_ite (nextIs_ite (evolves_raise hf) (evolves_next_advance hf))
    (nextIs_ite (evolves_next_advance h) (nextIs_fault _)))

end

end Sys2Proof.Machine
end

section
/-! SUPPORT. Every instruction, event and step is a sequence of the updates of `Evolves`. -/

namespace Sys2Proof.Machine

section
variable {s₀ s : State}

/-- Every instruction: one line per shape of meaning. -/
theorem evolves_exec (h : Evolves s₀ s) (i : Instr) : NextIs (Evolves s₀) (exec i s) := by
  cases i with
  | lb | lbu | lh | lhu | lw | lwu | ld => exact evolves_loadReg h
  | lwl | lwr | ldl | ldr =>
    dsimp only [exec, execLwl, execLwr, execLdl, execLdr]
    exact evolves_loadPart h
  | sb | sh | sw | sd => exact evolves_storeMem h
  | swl | swr | sdl | sdr => exact evolves_storePart h
  | ll | lld => exact evolves_loadLinked h
  | sc | scd => exact evolves_storeConditional h
  | sync => exact evolves_execSync h
  | lwc1 => exact evolves_withCp1 h (evolves_loadFpr h fun _ _ ht => evolves_setFprS ht _ _)
  | ldc1 => exact evolves_withCp1Double h (evolves_loadFpr h fun _ _ ht => evolves_setFprAt ht _ _)
  | swc1 => exact evolves_withCp1 h (evolves_storeMem h)
  | sdc1 => exact evolves_withCp1Double h (evolves_storeMem h)
  | addiu | daddiu | slti | sltiu | andi | ori | xori | lui
  | addu | daddu | subu | dsubu | slt | sltu | and | or | xor | nor
  | mfhi | mflo | multg | dmultg | multug | dmultug | divg | ddivg | divug | ddivug
  | modg | dmodg | modug | dmodug
  | sll | srl | sra | dsll | dsrl | dsra | dsll32 | dsrl32 | dsra32
  | sllv | srlv | srav | dsllv | dsrlv | dsrav => exact evolves_writeNext h
  | addi | daddi | add | dadd | sub | dsub => exact evolves_trapOverflow h
  | movz => exact nextIs_ite (evolves_writeNext h) (evolves_next_advance h)
  | movn => exact nextIs_ite (evolves_next_advance h) (evolves_writeNext h)
  | mult | multu | dmult | dmultu | div | divu | ddiv | ddivu => exact evolves_writeHiLo h
  | mthi | mtlo => exact evolves_next_advance (h.hiLo _ _)
  | j | jr | beq | bne | beql | bnel | blez | bgtz | blezl | bgtzl | bltz | bgez | bltzl | bgezl =>
    exact evolves_branch h
  | jal | jalr | bltzal | bgezal | bltzall | bgezall => exact evolves_branch_link h
  | bc1f | bc1t | bc1fl | bc1tl => exact evolves_withCp1 h (evolves_branch h)
  | syscall | brk => exact evolves_raise h
  | tge | tgeu | tlt | tltu | teq | tne | tgei | tgeiu | tlti | tltiu | teqi | tnei =>
    exact evolves_trapIf h
  | mfc0 | dmfc0 => exact evolves_readCp0 h
  | mtc0 | dmtc0 => exact evolves_withCp0 h (evolves_moveToCp0 h)
  | tlbp => exact evolves_withCp0 h (evolves_probeTlb h)
  | tlbr => exact evolves_withCp0 h (evolves_next_advance h.tlbRead)
  | tlbwi | tlbwr => exact evolves_withCp0 h (evolves_writeTlb h)
  | eret => exact evolves_execEret h
  | cache => exact evolves_execCache h
  | addS | subS | mulS | maddS | msubS | nmaddS | nmsubS
  | absS | negS | roundWS | truncWS | ceilWS | floorWS | cvtWS | cvtSW =>
    exact evolves_withCp1 h (evolves_fpFinishS h)
  | roundWD | truncWD | ceilWD | floorWD | cvtWD | cvtSD | cvtSL =>
    exact evolves_withCp1Double h (evolves_fpFinishS h)
  | addD | subD | mulD | maddD | msubD | nmaddD | nmsubD
  | addPs | subPs | mulPs | maddPs | msubPs | nmaddPs | nmsubPs
  | absD | negD | absPs | negPs | roundLD | truncLD | ceilLD | floorLD | cvtLD | cvtDL
  | roundLS | truncLS | ceilLS | floorLS | cvtLS | cvtDS | cvtDW =>
    exact evolves_withCp1Double h (evolves_fpFinishD h)
  | divS | sqrtS =>
    exact evolves_withCp1 h (nextIs_ite (nextIs_refused _) (evolves_withCp1 h (evolves_fpFinishS h)))
  | divD | sqrtD =>
    exact evolves_withCp1 h (nextIs_ite (nextIs_refused _) (evolves_withCp1Double h (evolves_fpFinishD h)))
  | cFS | cUnS | cEqS | cUeqS | cOltS | cUltS | cOleS | cUleS
  | cSfS | cNgleS | cSeqS | cNglS | cLtS | cNgeS | cLeS | cNgtS =>
    exact evolves_withCp1 h (evolves_fpFinishC h)
  | cFD | cUnD | cEqD | cUeqD | cOltD | cUltD | cOleD | cUleD
  | cSfD | cNgleD | cSeqD | cNglD | cLtD | cNgeD | cLeD | cNgtD =>
    exact evolves_withCp1Double h (evolves_fpFinishC h)
  | cFPs | cUnPs | cEqPs | cUeqPs | cOltPs | cUltPs | cOlePs | cUlePs
  | cSfPs | cNglePs | cSeqPs | cNglPs | cLtPs | cNgePs | cLePs | cNgtPs =>
    exact evolves_withCp1Double h (evolves_fpFinishCPs h)
  | movS | mtc1 => exact evolves_withCp1 h (evolves_next_advance (evolves_setFprS h _ _))
  | movD | movPs | dmtc1 => exact evolves_withCp1Double h (evolves_next_advance (evolves_setFprAt h _ _))
  | mfc1 => exact evolves_withCp1 h (evolves_writeNext h)
  | dmfc1 => exact evolves_withCp1Double h (evolves_writeNext h)
  | cfc1 => exact evolves_execCfc1 h
  | ctc1 => exact evolves_execCtc1 h

/-- A word that decodes to no instruction (30_encoding.md R388 to R391). -/
theorem evolves_rejectWord (h : Evolves s₀ s) (e : DecodeError) :
    NextIs (Evolves s₀) (rejectWord e s) := by
  cases e with
  | reserved | truncated => exact evolves_raise h
  | cop0Reserved => exact evolves_withCp0 h (evolves_raise h)
  | cop1Unlisted => exact evolves_withCp1 h (nextIs_refused _)
  | cop2 => exact nextIs_ite (nextIs_refused _) (evolves_raise h)
  | mustBeZero unit =>
    cases unit with
    | base => exact nextIs_refused _
    | cop0 => exact evolves_withCp0 h (nextIs_refused _)
    | cop1 => exact evolves_withCp1 h (nextIs_refused _)

/-! The fetch. -/

theorem itlbFill_length (s : State) (e : ItlbEntry) (h : s.itlb.length ≤ 16) :
    (itlbFill s e).length ≤ 16 := by
  unfold itlbFill
  split
  next hlt => simpa using hlt
  next => simpa using h

/-- The translation of a fetch leaves at most sixteen pages held (20_memory.md R284). -/
theorem translateFetch_itlb_length (s : State) (va : Word) (h : s.itlb.length ≤ 16) :
    (translateFetch s va).2.length ≤ 16 := by
  unfold translateFetch
  split
  · exact h
  · split
    · exact h
    · split
      · exact h
      · exact h
      · obtain hi | ⟨i, hi⟩ := fetchMapped_itlb s va
        · exact hi ▸ h
        · exact hi ▸ itlbFill_length s _ h

/-- The ITLB after a fetch's translation. -/
theorem evolves_translateFetch (h : Evolves s₀ s) {va : Word} {r : Trans} {l : List ItlbEntry}
    (ht : translateFetch s va = (r, l)) : Evolves s₀ { s with itlb := l } :=
  h.itlb l fun hl => by simpa [ht] using translateFetch_itlb_length s va hl

theorem evolves_fetch_word (h : Evolves s₀ s) {w : BitVec 32} {s1 : State} (hf : fetch s = .word w s1) :
    Evolves s₀ s1 := by
  obtain ⟨pa, c, m, ht, hm, heq⟩ := fetch_word hf
  rw [heq]
  exact evolves_bump (evolves_mem_of_ok (evolves_translateFetch h ht) (wf_fetchAttr _ _ _ _) hm)

theorem evolves_fetch_taken (h : Evolves s₀ s) {t : State} (hf : fetch s = .taken t) : Evolves s₀ t := by
  obtain ⟨e, itlb, m, ht, rfl, hm⟩ := fetch_taken hf
  have hi : Evolves s₀ { s with itlb := itlb } :=
    evolves_translateFetch h (r := (translateFetch s s.pc).1) (by rw [← ht])
  obtain rfl | ⟨pa, c, hm⟩ := hm
  · exact hi.exception e
  · exact (evolves_mem_of_exc hi (wf_fetchAttr _ _ _ _) hm).exception e

/-! The outside. -/

theorem wf_dmaWriteBytes (x : MemCtx) (bs : List Byte) (a : Word) {m m1 : MemSys} (h : m.wf)
    (hd : dmaWriteBytes x a bs m = .ok m1) : m1.wf := by
  induction bs generalizing a m with
  | nil => cases hd; exact h
  | cons b bs ih =>
    unfold dmaWriteBytes at hd
    split at hd
    · exact ih _ (wf_ddrWrite _ _ _ _ h) hd
    · exact ih _ h hd
    · cases hd

theorem wf_dmaReadBytes (x : MemCtx) (n : Nat) (a : Word) {m m1 : MemSys} (h : m.wf)
    (hd : dmaReadBytes x a n m = .ok m1) : m1.wf := by
  induction n generalizing a m with
  | zero => cases hd; exact h
  | succ n ih =>
    unfold dmaReadBytes at hd
    split at hd
    · rename_i d _
      have hr := wf_ddrRead x d 1 h
      split at hd
      · rename_i hm
        rw [hm] at hr
        exact ih _ (wf_log hr _) hd
      · rename_i hm
        rw [hm] at hr
        exact ih _ hr hd
      · cases hd
    · exact ih _ (wf_log h _) hd
    · exact ih _ h hd
    · cases hd

theorem evolves_housekept (h : Evolves s₀ s) {r : MemRes Unit} {t : State}
    (hr : s.mem.wf → r.All MemSys.wf) (ht : housekept s r = .ok t) : Evolves s₀ t := by
  cases r with
  | ok _ m => cases ht; exact h.mem m hr
  | exc _ m => cases ht; exact h.mem m hr
  | fault f => cases ht

theorem evolves_specFetch (h : Evolves s₀ s) {va : Word} {t : State} (ht : specFetch va s = .ok t) :
    Evolves s₀ t := by
  obtain rfl | ⟨pa, c, itlb, m, hi, ⟨w, hm⟩ | ⟨e, hm⟩, rfl⟩ := specFetch_ok ht
  · exact h
  · exact evolves_mem_of_ok (evolves_translateFetch h hi) (wf_fetchAttr _ _ _ _) hm
  · exact evolves_mem_of_exc (evolves_translateFetch h hi) (wf_fetchAttr _ _ _ _) hm

theorem evolves_specLoad (h : Evolves s₀ s) {va : Word} {t : State} (ht : specLoad va s = .ok t) :
    Evolves s₀ t := by
  obtain rfl | ⟨pa, w, m, hm, rfl⟩ := specLoad_ok ht
  · exact h
  · exact evolves_mem_of_ok h (wf_ensureD _ _ _ _) hm

/-- One event before a step (00_scope.md R33). -/
theorem evolves_applyEvent (h : Evolves s₀ s) {e : InputEvent} {t : State}
    (ht : applyEvent e s = .ok t) : Evolves s₀ t := by
  cases e with
  | pins | ddrStatus | pciStatus | pciArb => cases ht; exact evolves_onChip h _
  | nmi => cases ht; exact h.nmi true
  | softReset => cases ht; exact (h.nmi true).mem _ fun hw => wf_chip hw _
  | coldReset => cases ht; exact h.reset
  | dmaWrite a bs =>
    dsimp only [applyEvent] at ht
    split at ht
    · rename_i m hm
      cases ht
      exact h.mem m fun hw => wf_dmaWriteBytes _ _ _ hw hm
    · cases ht
  | dmaRead a n =>
    dsimp only [applyEvent] at ht
    split at ht
    · rename_i m hm
      cases ht
      exact h.mem m fun hw => wf_dmaReadBytes _ _ _ hw hm
    · cases ht
  | specFetch va => exact evolves_specFetch h ht
  | specLoad va => exact evolves_specLoad h ht
  | evictD set way =>
    dsimp only [applyEvent] at ht
    split at ht
    · exact evolves_housekept h (wf_evictD _ _ _) ht
    · cases ht; exact h
  | evictS set way =>
    dsimp only [applyEvent] at ht
    split at ht
    · exact evolves_housekept h (wf_evictS _ _ _) ht
    · cases ht; exact h
  | dropI set way =>
    dsimp only [applyEvent] at ht
    split at ht
    · cases ht; exact h.mem _ fun hw => wf_iSet hw _ _ _
    · cases ht; exact h
  | dropItlb n =>
    cases ht
    exact h.itlb _ fun hl => (List.length_eraseIdx_le _ _).trans hl
  | drainGather => exact evolves_housekept h (wf_drainGather _) ht

theorem evolves_applyEvents {es : List InputEvent} (h : Evolves s₀ s) {t : State}
    (ht : applyEvents es s = .ok t) : Evolves s₀ t := by
  induction es generalizing s with
  | nil => cases ht; exact h
  | cons e es ih =>
    unfold applyEvents at ht
    split at ht
    · exact ih (evolves_bump (evolves_applyEvent h ‹_›)) ht
    · cases ht

/-- What the outside does before a step (61_platform.md R945). -/
theorem evolves_environment (h : Evolves s₀ s) {t : State} (ht : environment s = .ok t) :
    Evolves s₀ t := by
  unfold environment at ht
  split at ht
  · cases ht
    exact evolves_onChip (evolves_applyEvents (h.inputs _) ‹_›) _
  · cases ht

/-! The step. -/

theorem evolves_standbyStep (h : Evolves s₀ s) : Evolves s₀ (standbyStep s) :=
  evolves_bump (evolves_onChip h _)

theorem evolves_coreStep (h : Evolves s₀ s) : NextIs (Evolves s₀) (coreStep s) := by
  intro t ht
  obtain ⟨-, rfl⟩ | ⟨-, rfl⟩ | hf | ⟨w, s1, hf, ⟨i, -, he⟩ | ⟨e, -, he⟩⟩ := coreStep_next ht
  · exact h.nmiTaken
  · exact h.exception _
  · exact evolves_fetch_taken h hf
  · exact evolves_exec (evolves_fetch_word h hf) i t he
  · exact evolves_rejectWord (evolves_fetch_word h hf) e t he

/-- Everything a step can do to the state: an invariant of each update is one of every step. -/
theorem evolves_step {s t : State} (ht : step s = .next t) : Evolves s t := by
  obtain ⟨s1, he, ⟨-, rfl⟩ | ⟨-, u, hu, rfl⟩⟩ := step_next ht
  · exact evolves_standbyStep (evolves_environment .refl he)
  · exact (evolves_coreStep (evolves_environment .refl he) u hu).finished s1

end

end Sys2Proof.Machine
end

section
/-! SUPPORT. O9: every update keeps the core invariant, and so does every step. -/

namespace Sys2Proof.Machine

/-- The parts of the core invariant by name. -/
theorem coreWf_iff (s : State) : CoreWf s ↔ s.gpr[0] = 0 ∧ (s.nextPc.isSome = true → s.inSlot = true)
    ∧ s.fcr31 &&& ~~~fcrMask = 0 ∧ s.itlb.length ≤ 16 := Iff.rfl

/-- The core invariant reads five fields only. -/
theorem CoreWf.congr {s t : State} (h : CoreWf s) (hg : t.gpr = s.gpr) (hn : t.nextPc = s.nextPc)
    (hs : t.inSlot = s.inSlot) (hf : t.fcr31 = s.fcr31) (hi : t.itlb = s.itlb) : CoreWf t := by
  rw [coreWf_iff, hg, hn, hs, hf, hi]
  exact h

/-- No pending target and no slot: an exception's entry, ERET and NMI. -/
theorem CoreWf.outOfSlot {s t : State} (h : CoreWf s) (hg : t.gpr = s.gpr) (hn : t.nextPc = none)
    (hf : t.fcr31 = s.fcr31) (hi : t.itlb = s.itlb) : CoreWf t := by
  obtain ⟨hgpr, -, hfcr, hitlb⟩ := h
  rw [coreWf_iff, hg, hn, hf, hi]
  exact ⟨hgpr, nofun, hfcr, hitlb⟩

/-- A write of a general register leaves GPR[0]: register 0 is not written (10_state.md R101). -/
theorem gpr_zero_setReg (s : State) (r : Reg) (v : Word) : (s.setReg r v).gpr[0] = s.gpr[0] := by
  unfold State.setReg
  split
  · rfl
  · rename_i hr
    exact Vector.getElem_set_ne r.isLt _ fun h => hr (BitVec.eq_of_toNat_eq h)

theorem CoreWf.setReg {s : State} (h : CoreWf s) (r : Reg) (v : Word) : CoreWf (s.setReg r v) := by
  rw [coreWf_iff, gpr_zero_setReg, setReg_nextPc, setReg_inSlot, setReg_fcr31, setReg_itlb]
  exact h

theorem coreWf_coldReset (s : State) : CoreWf (coldReset s) :=
  ⟨rfl, nofun, BitVec.zero_and, Nat.zero_le _⟩

/-- Every update keeps the core invariant. Four write a field it speaks of, each under its own condition;
exceptions, ERET, NMI and reset leave the delay slot; the rest write none of its fields. -/
theorem Evolves.coreWf {s t : State} (h : Evolves s t) (hs : CoreWf s) : CoreWf t := by
  induction h with
  | refl => exact hs
  | setReg _ r v ih => exact ih.setReg r v
  | goTo _ pc target slot ht ih =>
    obtain ⟨hgpr, -, hfcr, hitlb⟩ := ih
    exact ⟨hgpr, ht, hfcr, hitlb⟩
  | fcr31 _ f hf ih =>
    obtain ⟨hgpr, hslot, hfcr, hitlb⟩ := ih
    exact ⟨hgpr, hslot, hf hfcr, hitlb⟩
  | itlb _ l hl ih =>
    obtain ⟨hgpr, hslot, hfcr, hitlb⟩ := ih
    exact ⟨hgpr, hslot, hfcr, hl hitlb⟩
  | reset => exact coreWf_coldReset _
  | exception _ _ ih | eret _ ih | nmiTaken _ ih =>
    exact ih.outOfSlot (by simp) (by simp) (by simp) (by simp)
  | hiLo _ _ _ ih | fpr _ _ ih | link _ _ _ ih | mem _ _ _ ih | tlbWrite _ _ _ _ ih | tlbRead _ ih
  | probeHit _ _ ih | probeMiss _ _ ih | cp0Write _ _ _ ih | tags _ _ _ ih | nmi _ _ ih
  | inputs _ _ ih | tick _ _ ih | finished _ _ ih => exact ih.congr rfl rfl rfl rfl rfl

/-- Settles O9: a step is a sequence of updates that each keep the invariant. -/
theorem stepKeepsCoreLegal : Obligations.StepKeepsCoreLegal :=
  fun _ _ hs ht => (evolves_step ht).coreWf hs

end Sys2Proof.Machine
end

section
/-! SUPPORT. Absent bits of a word: `x &&& absent = 0`, for the words the CP0 registers are written with. -/

namespace Sys2Proof.Machine

section
variable {w : Nat}

/-- A value cut to a mask has no bit outside it. -/
theorem masked_and_eq_zero {mask absent : BitVec w} (v : BitVec w) (hm : mask &&& absent = 0) :
    v &&& mask &&& absent = 0 := by
  rw [BitVec.and_assoc, hm]
  exact BitVec.and_zero

theorem masked_and_not (v mask : BitVec w) : v &&& mask &&& ~~~mask = 0 :=
  masked_and_eq_zero v (BitVec.and_not_self mask)

/-- With more bits present, what was inside the mask still is. -/
theorem and_not_or_eq_zero {x mask : BitVec w} (more : BitVec w) (h : x &&& ~~~mask = 0) :
    x &&& ~~~(mask ||| more) = 0 := by
  rw [BitVec.not_or, ← BitVec.and_assoc, h]
  exact BitVec.zero_and

/-- A field written leaves every bit outside it. -/
theorem merge_and_not (mask x v : BitVec w) : merge mask x v &&& ~~~mask = x &&& ~~~mask := by
  ext i hi
  simp only [merge, BitVec.getElem_and, BitVec.getElem_or, BitVec.getElem_not]
  cases mask[i] <;> simp

theorem setBit_and_eq_zero {x absent : BitVec w} {i : Nat} (b : Bool)
    (hi : BitVec.twoPow w i &&& absent = 0) (hx : x &&& absent = 0) : setBit x i b &&& absent = 0 :=
  merge_and_eq_zero hi hx

theorem and_not_allOnes (x : BitVec w) : x &&& ~~~(BitVec.allOnes w) = 0 := by
  rw [BitVec.not_allOnes]
  exact BitVec.and_zero

/-- Fields side by side, each inside its mask. -/
theorem append_and_not_eq_zero {v : Nat} {x mask : BitVec w} {y mask' : BitVec v}
    (hx : x &&& ~~~mask = 0) (hy : y &&& ~~~mask' = 0) : (x ++ y) &&& ~~~(mask ++ mask') = 0 := by
  rw [BitVec.not_append, BitVec.and_append, hx, hy]
  exact BitVec.zero_append_zero

/-- A word inside a mask stays inside it when both are widened or cut. -/
theorem setWidth_and_not_eq_zero {v : Nat} {x mask : BitVec w} (h : x &&& ~~~mask = 0) :
    x.setWidth v &&& ~~~(mask.setWidth v) = 0 := by
  have hx : x = x &&& mask := by
    calc x = x &&& (mask ||| ~~~mask) := by rw [BitVec.or_not_self, BitVec.and_allOnes]
      _ = x &&& mask := by rw [BitVec.and_or_distrib_left, h]; exact BitVec.or_zero
  rw [hx, BitVec.setWidth_and]
  exact masked_and_not _ _

/-! The masks that depend on a parameter, and the fields of TLBR. -/

/-- Status has the bits of the mask that no parameter moves (11_cp0_registers.md R180). -/
theorem and_not_statusMask {x : BitVec 32} (p : ChipParams) (h : x &&& ~~~0xF450FF1F = 0) :
    x &&& ~~~(statusMask p) = 0 := and_not_or_eq_zero _ (and_not_or_eq_zero _ h)

/-- An EntryLo register made from a page has no bit but PFN, C, D, V, G and E (R157, R159). -/
theorem loOfPage_absent (p : ChipParams) (g : Bool) (x : TlbPage) :
    loOfPage p g x &&& ~~~(entryLoMask p) = 0 := by
  have hE : BitVec.twoPow 64 p.entryLoEBit &&& ~~~(entryLoMask p) = 0 := by
    rw [entryLoMask, BitVec.or_comm]
    exact and_not_or_eq_zero _ (BitVec.and_not_self _)
  exact setBit_and_eq_zero _ hE (and_not_or_eq_zero _ (setWidth_and_not_eq_zero (v := 64) (and_not_allOnes _)))

/-- EntryHi made from an entry's R, VPN2 and ASID has no other bit (R174). -/
theorem entryHi_append_absent (r : BitVec 2) (vpn2 : BitVec 27) (asid : BitVec 8) :
    (r ++ (0 : BitVec 22) ++ vpn2 ++ (0 : BitVec 5) ++ asid) &&& ~~~entryHiMask = 0 := by
  have hmask : entryHiMask = BitVec.allOnes 2 ++ (0 : BitVec 22) ++ BitVec.allOnes 27 ++ (0 : BitVec 5)
      ++ BitVec.allOnes 8 := by decide
  rw [hmask]
  have hlow := append_and_not_eq_zero (and_not_allOnes r) (BitVec.zero_and (x := ~~~(0 : BitVec 22)))
  have hvpn2 := append_and_not_eq_zero hlow (and_not_allOnes vpn2)
  exact append_and_not_eq_zero (append_and_not_eq_zero hvpn2 (BitVec.zero_and (x := ~~~(0 : BitVec 5))))
    (and_not_allOnes asid)

/-- PageMask made from an entry's mask has no other bit (R163). -/
theorem pageMask_append_absent (mask : BitVec 12) :
    (mask ++ (0 : BitVec 13)).setWidth 32 &&& ~~~0x01FFE000 = 0 := by
  have hmask : (0x01FFE000 : BitVec 32) = (BitVec.allOnes 12 ++ (0 : BitVec 13)).setWidth 32 := by decide
  rw [hmask]
  exact setWidth_and_not_eq_zero
    (append_and_not_eq_zero (and_not_allOnes mask) (BitVec.zero_and (x := ~~~(0 : BitVec 13))))

end

end Sys2Proof.Machine
end

section
/-! SUPPORT. The legal CP0 registers by name, and each operation on CP0 keeps them legal. -/

namespace Sys2Proof.Machine

/-- `Cp0.wf` with its parts named, so that an operation states only what it changes (`legalCp0_iff`). -/
structure LegalCp0 (p : ChipParams) (c : Cp0) : Prop where
  index : c.index &&& ~~~0x8000003F = 0
  random : c.wired ≤ c.random
  entryLo0 : c.entryLo0 &&& ~~~(entryLoMask p) = 0
  entryLo1 : c.entryLo1 &&& ~~~(entryLoMask p) = 0
  context : c.context &&& 0xF = 0
  pageMask : c.pageMask &&& ~~~0x01FFE000 = 0
  entryHi : c.entryHi &&& ~~~entryHiMask = 0
  status : c.status &&& ~~~(statusMask p) = 0
  cause : c.cause &&& ~~~0xB000037C = 0
  config : c.config &&& ~~~0x7 = 0x00030930
  watch : c.watch &&& 0x4 = 0
  xcontext : c.xcontext &&& 0xF = 0
  diag : c.diag &&& ~~~(diagMask p) = 0
  perfCtl : c.perfCtl &&& ~~~0x1FFF = 0

theorem legalCp0_iff {p : ChipParams} {c : Cp0} : LegalCp0 p c ↔ c.wf p :=
  ⟨fun h => ⟨h.index, h.random, h.entryLo0, h.entryLo1, h.context, h.pageMask, h.entryHi, h.status, h.cause,
      h.config, h.watch, h.xcontext, h.diag, h.perfCtl⟩,
    fun ⟨index, random, entryLo0, entryLo1, context, pageMask, entryHi, status, cause, config, watch, xcontext,
      diag, perfCtl⟩ =>
      { index, random, entryLo0, entryLo1, context, pageMask, entryHi, status, cause, config, watch, xcontext,
        diag, perfCtl }⟩

section
variable {p : ChipParams} {c : Cp0}

/-! Reset and the write rule. -/

theorem legalCp0_reset (p : ChipParams) : LegalCp0 p Cp0.reset where
  index := by decide
  random := by decide
  entryLo0 := BitVec.zero_and
  entryLo1 := BitVec.zero_and
  context := by decide
  pageMask := by decide
  entryHi := by decide
  status := and_not_statusMask p (by decide)
  cause := by decide
  config := by decide
  watch := by decide
  xcontext := by decide
  diag := BitVec.zero_and
  perfCtl := by decide

/-- A write of a CP0 register keeps the absent bits: each register masks what it takes or merges it into
bits that exist, and Wired puts Random at 63 (11_cp0_registers.md R154). The cases are in the order of the
register numbers, the last for the read-only and reserved ones. -/
theorem LegalCp0.writeCp0 (h : LegalCp0 p c) (n : Reg) (v : Word) : LegalCp0 p (writeCp0 p c n v) := by
  unfold Machine.writeCp0
  split
  · exact { h with index := masked_and_not _ _ }
  · exact { h with entryLo0 := masked_and_not _ _ }
  · exact { h with entryLo1 := masked_and_not _ _ }
  · exact { h with context := merge_and_eq_zero (by decide) h.context }
  · exact { h with pageMask := masked_and_not _ _ }
  · exact { h with random := Nat.le_of_lt_succ (v.extractLsb' 0 6).isLt }
  · exact { h with }
  · exact { h with entryHi := masked_and_not _ _ }
  · exact { h with }
  · exact { h with status := masked_and_not _ _ }
  · exact { h with cause := merge_and_eq_zero (by decide) h.cause }
  · exact { h with }
  · exact { h with config := (merge_and_not _ _ _).trans h.config }
  · exact { h with watch := masked_and_eq_zero _ (by decide) }
  · exact { h with xcontext := merge_and_eq_zero (by decide) h.xcontext }
  · exact { h with diag := masked_and_not _ _ }
  · exact { h with perfCtl := masked_and_not _ _ }
  · exact { h with }
  · exact { h with }
  · exact { h with }
  · exact { h with }
  · exact h

/-! Exception entry (60_exceptions.md R840, R843). -/

theorem LegalCp0.tlbRecord (h : LegalCp0 p c) (tick : Nat) (va : Word) :
    LegalCp0 p (tlbRecord p tick va c) :=
  { h with
    context := merge_and_eq_zero (by decide) h.context
    xcontext := merge_and_eq_zero (by decide) h.xcontext
    entryHi := merge_and_eq_zero (by decide) h.entryHi
    entryLo0 := masked_and_not _ _
    entryLo1 := masked_and_not _ _ }

theorem LegalCp0.entryPc (h : LegalCp0 p c) (s : State) : LegalCp0 p (entryPc s c) := by
  unfold Machine.entryPc
  split
  · exact h
  · exact { h with cause := setBit_and_eq_zero _ (by decide) h.cause }

theorem LegalCp0.entryCause (h : LegalCp0 p c) (e : Exc) : LegalCp0 p (entryCause e c) := by
  have hcode : LegalCp0 p { c with cause := merge 0x7C c.cause ((excCode e).setWidth 32 <<< 2) } :=
    { h with cause := merge_and_eq_zero (by decide) h.cause }
  unfold Machine.entryCause
  dsimp only
  split
  · exact { hcode with cause := merge_and_eq_zero (by decide) hcode.cause }
  · exact hcode

theorem LegalCp0.entryAddress (h : LegalCp0 p c) (tick : Nat) (e : Exc) :
    LegalCp0 p (entryAddress p tick e c) := by
  have hbad (va : Word) : LegalCp0 p { c with badVAddr := va } := { h with }
  unfold Machine.entryAddress
  cases excBadVa e with
  | none =>
    cases excTlbVa e with
    | none => exact h
    | some va => exact h.tlbRecord tick va
  | some bad =>
    cases excTlbVa e with
    | none => exact hbad bad
    | some va => exact (hbad bad).tlbRecord tick va

theorem LegalCp0.setStatusBit (h : LegalCp0 p c) {i : Nat} (b : Bool)
    (hi : BitVec.twoPow 32 i &&& ~~~0xF450FF1F = 0) :
    LegalCp0 p { c with status := setBit c.status i b } :=
  { h with status := setBit_and_eq_zero b (and_not_statusMask p hi) h.status }

/-! The end of a step (60_exceptions.md R836). -/

/-- Random after a step lies in [Wired, 63] (11_cp0_registers.md R154). -/
theorem LegalCp0.tickRandom (h : LegalCp0 p c) (tick : Nat) : LegalCp0 p (tickRandom tick c) := by
  unfold Machine.tickRandom
  split
  · exact { h with }
  · have hw : c.wired.toNat < 64 := c.wired.isLt
    have hr := Nat.mod_lt (draw 6 .random tick 0).toNat (show 64 - c.wired.toNat > 0 by omega)
    refine { h with random := (?_ : c.wired ≤ BitVec.ofNat 6 _) }
    rw [BitVec.le_def, BitVec.toNat_ofNat, Nat.mod_eq_of_lt (by omega)]
    exact Nat.le_add_right _ _

theorem LegalCp0.tickCount (h : LegalCp0 p c) (tick : Nat) : LegalCp0 p (tickCount tick c) := { h with }

theorem LegalCp0.tickPerf (h : LegalCp0 p c) (on : Bool) (tick : Nat) :
    LegalCp0 p (tickPerf on tick c) := by
  unfold Machine.tickPerf
  split
  · exact { h with }
  · exact h

end

/-! The updates of the whole state. -/

section
variable {s : State}

/-- TLBR writes only bits that exist (46_cp0_privileged.md R670). -/
theorem LegalCp0.readTlb (h : LegalCp0 s.params s.cp0) : LegalCp0 s.params (readTlb s).cp0 :=
  { h with
    pageMask := pageMask_append_absent _
    entryHi := entryHi_append_absent _ _ _
    entryLo0 := loOfPage_absent _ _ _
    entryLo1 := loOfPage_absent _ _ _ }

/-- A TLBP that matches writes the number of an entry (46_cp0_privileged.md R669). -/
theorem LegalCp0.probeHit {p : ChipParams} {c : Cp0} (h : LegalCp0 p c) (i : Fin 64) :
    LegalCp0 p { c with index := BitVec.ofNat 32 i.val } :=
  have hnum : ∀ i : Fin 64, BitVec.ofNat 32 i.val &&& ~~~0x8000003F = 0 := by decide
  { h with index := hnum i }

/-- A TLBP that misses sets P and leaves a free number (11_cp0_registers.md R155). -/
theorem LegalCp0.probeMiss {p : ChipParams} {c : Cp0} (h : LegalCp0 p c) (x : BitVec 6) :
    LegalCp0 p { c with index := 0x80000000 ||| x.setWidth 32 } :=
  { h with index := or_and_eq_zero (by decide) (and_not_or_eq_zero 0x80000000
      (setWidth_and_not_eq_zero (and_not_allOnes x))) }

theorem LegalCp0.takeException (h : LegalCp0 s.params s.cp0) (e : Exc) :
    LegalCp0 s.params (takeException e s).cp0 :=
  (((h.entryPc s).entryCause e).entryAddress s.tick e).setStatusBit true (by decide)

/-- ERET clears ERL or EXL (46_cp0_privileged.md R673). -/
theorem LegalCp0.returnFromException (h : LegalCp0 s.params s.cp0) :
    LegalCp0 s.params (returnFromException s).cp0 := by
  unfold Machine.returnFromException
  split
  · exact h.setStatusBit false (by decide)
  · exact h.setStatusBit false (by decide)

/-- An NMI sets ERL, SR and BEV (60_exceptions.md R850). -/
theorem LegalCp0.takeNmi (h : LegalCp0 s.params s.cp0) : LegalCp0 s.params (takeNmi s).cp0 :=
  have hst := ((h.setStatusBit (i := 2) true (by decide)).setStatusBit (i := 20) true (by decide)).setStatusBit
    (i := 22) true (by decide)
  { hst with }

/-- The end of a step: Random, Count and the performance counters move on. -/
theorem LegalCp0.finish {t : State} (h : LegalCp0 t.params t.cp0) (u : State) :
    LegalCp0 t.params (finish u t).cp0 :=
  ((h.tickRandom t.tick).tickCount t.tick).tickPerf _ _

end

end Sys2Proof.Machine
end

section
/-! SUPPORT. O7: every update keeps the CP0 registers legal, and so does every step. -/

namespace Sys2Proof.Machine

/-- Every update keeps the CP0 registers legal: those that write CP0 do it by an operation that does, the rest
write neither CP0 nor the parameters. -/
theorem Evolves.legalCp0 {s t : State} (h : Evolves s t) (hs : LegalCp0 s.params s.cp0) :
    LegalCp0 t.params t.cp0 := by
  induction h with
  | refl => exact hs
  | setReg _ _ _ ih => simpa using ih
  | tlbRead _ ih => exact ih.readTlb
  | probeHit _ i ih => exact ih.probeHit i
  | probeMiss _ x ih => exact ih.probeMiss x
  | cp0Write _ n v ih => exact ih.writeCp0 n v
  | tags _ _ _ ih => exact { ih with }
  | exception _ e ih => exact ih.takeException e
  | eret _ ih => simpa using ih.returnFromException
  | nmiTaken _ ih => exact ih.takeNmi
  | reset => exact { legalCp0_reset _ with }
  | finished _ u ih => exact ih.finish u
  | hiLo _ _ _ ih | fpr _ _ ih | fcr31 _ _ _ ih | link _ _ _ ih | goTo _ _ _ _ _ ih | mem _ _ _ ih
  | itlb _ _ _ ih | tlbWrite _ _ _ _ ih | nmi _ _ ih | inputs _ _ ih | tick _ _ ih => exact ih

/-- Settles O7: a step is a sequence of updates that each keep the CP0 registers legal. -/
theorem stepKeepsCp0Legal : Obligations.StepKeepsCp0Legal :=
  fun _ _ hs ht => legalCp0_iff.1 ((evolves_step ht).legalCp0 (legalCp0_iff.2 hs))

end Sys2Proof.Machine
end

section
/-! SUPPORT. O6: every update keeps the memories and the caches in canonical form, and so does every step. -/

namespace Sys2Proof.Machine

/-- Every update keeps the canonical form. Only `mem`, reset and the end of a step write the memory system:
the first under its own condition, the second keeps the ROM and empties the rest, the third writes the chip. -/
theorem Evolves.memWf {s t : State} (h : Evolves s t) (hs : s.mem.wf) : t.mem.wf := by
  induction h with
  | refl => exact hs
  | mem _ m hm ih => exact hm ih
  | @reset u _ ih =>
    obtain ⟨-, hrom, -⟩ := ih
    exact wf_reset u.params hrom
  | finished _ _ ih => exact wf_chip ih _
  | setReg _ _ _ ih => simpa using ih
  | eret _ ih => simpa using ih
  | hiLo _ _ _ ih | fpr _ _ ih | fcr31 _ _ _ ih | link _ _ _ ih | goTo _ _ _ _ _ ih | itlb _ _ _ ih
  | tlbWrite _ _ _ _ ih | tlbRead _ ih | probeHit _ _ ih | probeMiss _ _ ih | cp0Write _ _ _ ih
  | tags _ _ _ ih | exception _ _ ih | nmiTaken _ ih | nmi _ _ ih | inputs _ _ ih | tick _ _ ih => exact ih

/-- Settles O6: a step is a sequence of updates that each keep the canonical form. -/
theorem stepKeepsMemoryCanonical : Obligations.StepKeepsMemoryCanonical :=
  fun _ _ hs ht => (evolves_step ht).memWf hs

end Sys2Proof.Machine
end

section
/-! SUPPORT. The JTLB as the invariant sees it: when two entries overlap, and what a write and reset leave. -/

namespace Sys2Proof.Machine

theorem overlaps_comm (a b : TlbEntry) : overlaps a b = overlaps b a := by
  unfold overlaps
  rw [Bool.beq_comm, Bool.or_comm a.g, Bool.beq_comm (a := a.asid), BitVec.xor_comm, BitVec.or_comm a.mask]

/-- Two patterns that agree with one value outside their masks agree with each other outside both masks. -/
theorem xor_and_not_or_eq_zero {w : Nat} {x y v m n : BitVec w} (hx : (x ^^^ v) &&& ~~~m = 0)
    (hy : (y ^^^ v) &&& ~~~n = 0) : (x ^^^ y) &&& ~~~(m ||| n) = 0 := by
  ext i hi
  have hxi : ((x ^^^ v) &&& ~~~m)[i] = false := by simp [hx]
  have hyi : ((y ^^^ v) &&& ~~~n)[i] = false := by simp [hy]
  simp only [BitVec.getElem_and, BitVec.getElem_xor, BitVec.getElem_not, BitVec.getElem_or] at *
  grind

/-- Two entries that match one address under one ASID overlap (20_memory.md R276, R279). -/
theorem overlaps_of_hits {a b : TlbEntry} {asid : BitVec 8} {va : Word} (ha : a.hits asid va = true)
    (hb : b.hits asid va = true) : overlaps a b = true := by
  simp only [TlbEntry.hits, Bool.and_eq_true, Bool.or_eq_true, beq_iff_eq] at ha hb
  obtain ⟨⟨hva, hra⟩, haa⟩ := ha
  obtain ⟨⟨hvb, hrb⟩, hab⟩ := hb
  simp only [overlaps, Bool.and_eq_true, Bool.or_eq_true, beq_iff_eq, BitVec.setWidth_or]
  exact ⟨⟨hra.trans hrb.symm, by grind⟩, xor_and_not_or_eq_zero hva hvb⟩

/-- The invariant reads the JTLB only. -/
theorem TlbUnambiguous.congr {s t : State} (h : TlbUnambiguous s) (ht : t.tlb = s.tlb) : TlbUnambiguous t := by
  unfold TlbUnambiguous
  rw [ht]
  exact h

/-- A legal entry that overlaps no other one may be written (46_cp0_privileged.md R671). -/
theorem TlbUnambiguous.set {s : State} (h : TlbUnambiguous s) (i : BitVec 6) {e : TlbEntry}
    (hl : legalMask e.mask = true) (ho : ∀ j : Fin 64, j.val ≠ i.toNat → overlaps e s.tlb[j] = false) :
    TlbUnambiguous { s with tlb := s.tlb.set i.toNat e i.isLt } := by
  obtain ⟨hlegal, hover⟩ := h
  refine ⟨fun j => ?_, fun j k hjk => ?_⟩
  · by_cases hj : i.toNat = j.val
    · simpa [Vector.getElem_set, hj] using hl
    · simpa [Vector.getElem_set, hj] using hlegal j
  · have hne : j.val ≠ k.val := fun h => hjk (Fin.ext h)
    by_cases hj : i.toNat = j.val
    · have hk : ¬i.toNat = k.val := by omega
      simpa [Vector.getElem_set, hj, hne] using ho k (Ne.symm hk)
    · by_cases hk : i.toNat = k.val
      · simpa [Vector.getElem_set, hk, Ne.symm hne, overlaps_comm] using ho j (Ne.symm hj)
      · simpa [Vector.getElem_set, hj, hk] using hover j k hjk

/-- The entries after reset have one size and differ in VPN2 (70_reset_and_hazards.md R995). -/
theorem tlbUnambiguous_coldReset (s : State) : TlbUnambiguous (coldReset s) := by
  have hget : ∀ i : Fin 64, (coldReset s).tlb[i] =
      { mask := 0, r := 2, vpn2 := BitVec.ofNat 27 i.val, g := false, asid := 0
        even := TlbPage.empty, odd := TlbPage.empty } := fun i => Vector.getElem_ofFn i.isLt
  refine ⟨fun i => by rw [hget]; rfl, fun i j hij => ?_⟩
  have hvpn : BitVec.ofNat 27 i.val ≠ BitVec.ofNat 27 j.val := fun h => hij <| Fin.ext <| by
    have := congrArg BitVec.toNat h
    simp only [BitVec.toNat_ofNat] at this
    omega
  have hmask : ~~~((0 : BitVec 12) ||| 0).setWidth 27 = BitVec.allOnes 27 := by decide
  rw [hget, hget]
  simp only [overlaps, hmask, BitVec.and_allOnes]
  simpa using hvpn

end Sys2Proof.Machine
end

section
/-! SUPPORT. O8: every update keeps the JTLB unambiguous, and so does every step. -/

namespace Sys2Proof.Machine

/-- Every update keeps the JTLB unambiguous: TLBWI and TLBWR have checked the entry they write (log 17), reset
writes entries apart, and nothing else writes the JTLB. -/
theorem Evolves.tlbUnambiguous {s t : State} (h : Evolves s t) (hs : TlbUnambiguous s) : TlbUnambiguous t := by
  induction h with
  | refl => exact hs
  | tlbWrite _ i hl ho ih => exact ih.set i hl ho
  | reset => exact tlbUnambiguous_coldReset _
  | setReg _ _ _ ih => exact ih.congr (by simp)
  | eret _ ih => exact ih.congr (by simp)
  | hiLo _ _ _ ih | fpr _ _ ih | fcr31 _ _ _ ih | link _ _ _ ih | goTo _ _ _ _ _ ih | mem _ _ _ ih
  | itlb _ _ _ ih | tlbRead _ ih | probeHit _ _ ih | probeMiss _ _ ih | cp0Write _ _ _ ih
  | tags _ _ _ ih | exception _ _ ih | nmiTaken _ ih | nmi _ _ ih | inputs _ _ ih | tick _ _ ih
  | finished _ _ ih => exact ih.congr rfl

/-- Settles O8: a step is a sequence of updates that each keep the JTLB unambiguous. -/
theorem stepKeepsTlbUnambiguous : Obligations.StepKeepsTlbUnambiguous :=
  fun _ _ hs ht => (evolves_step ht).tlbUnambiguous hs

end Sys2Proof.Machine
end

section
/-! SUPPORT. O11: in an unambiguous JTLB at most one entry matches an address. -/

namespace Sys2Proof.Machine

theorem mem_tlbHits {s : State} {va : Word} {i : Fin 64} :
    i ∈ tlbHits s va ↔ s.tlb[i].hits s.asid va = true := by
  simp [tlbHits]

/-- No address matches two entries (20_memory.md R279). -/
theorem TlbUnambiguous.tlbHits_cases {s : State} (h : TlbUnambiguous s) (va : Word) :
    tlbHits s va = [] ∨ ∃ i, tlbHits s va = [i] := by
  have hnodup : (tlbHits s va).Nodup := (List.nodup_finRange 64).filter _
  match hl : tlbHits s va with
  | [] => exact .inl rfl
  | [i] => exact .inr ⟨i, rfl⟩
  | i :: j :: l =>
    have hij : i ≠ j := by
      rw [hl] at hnodup
      exact fun he => (List.nodup_cons.1 hnodup).1 (by simp [he])
    have hi : s.tlb[i].hits s.asid va = true := mem_tlbHits.1 (by simp [hl])
    have hj : s.tlb[j].hits s.asid va = true := mem_tlbHits.1 (by simp [hl])
    obtain ⟨-, hover⟩ := h
    exact absurd (overlaps_of_hits hi hj) (Bool.eq_false_iff.1 (hover i j hij))

/-- A selected page is an address or an exception, and never a stop (20_memory.md R278). -/
theorem pageOutcome_ne_fault (first : Bool) (acc : Access) (mask : BitVec 12) (p : TlbPage) (va : Word)
    (f : Fault) : pageOutcome first acc mask p va ≠ .fault f := by
  unfold pageOutcome
  dsimp only
  repeat' split
  all_goals nofun

/-- The JTLB stops a mapped access of an unambiguous one only for its page sizes. -/
theorem TlbUnambiguous.jtlb_ne_multipleMatch {s : State} (h : TlbUnambiguous s) (acc : Access) (va : Word) :
    jtlb s acc va ≠ .fault .tlbMultipleMatch := by
  unfold jtlb
  split
  · nofun
  · obtain hn | ⟨i, hi⟩ := h.tlbHits_cases va
    · rw [hn]
      nofun
    · rw [hi]
      exact pageOutcome_ne_fault _ _ _ _ _ _

/-- Settles O11: of the outcomes of a translation only the JTLB's could be the multiple match. -/
theorem noMultipleMatch : Obligations.NoMultipleMatch := by
  intro s acc aligned va h
  unfold translate
  split
  · nofun
  · split
    · nofun
    · split
      · nofun
      · nofun
      · exact h.jtlb_ne_multipleMatch acc va

end Sys2Proof.Machine
end

section
/-! SUPPORT. O60: one byte of a PCI master's transfer. -/

namespace Sys2Proof.Machine

/-- A DDR2 write within the memory, its DLL locked (61_platform.md R920). -/
theorem ddrWrite_inRange {x : MemCtx} {a n : Nat} {v : BitVec 256} {m : MemSys}
    (hr : m.chip.ddrReady = true) (ha : a + n ≤ x.params.ddrSize) :
    ddrWrite x a n v m = { m with ddr := writeBytes m.ddr a v n } := by
  simp [ddrWrite, hr, ha]

theorem writeBytes_one (m : Memory) (a : Nat) (b : Byte) :
    writeBytes m a (b.setWidth 256) 1 = writeByte m a b := by
  simp [writeBytes]

/-- A byte a PCI master writes to DDR2 is written there and nowhere else (20_memory.md R295). -/
theorem applyEvent_dmaWrite_byte {s : State} {addr : Word} {b : Byte} {d : Nat}
    (ht : dmaTarget s.mem.chip addr = .ok (.ddr d)) (hr : s.mem.chip.ddrReady = true)
    (hd : d < s.params.ddrSize) :
    applyEvent (.dmaWrite addr [b]) s = .ok { s with mem := { s.mem with ddr := writeByte s.mem.ddr d b } } := by
  have hw : dmaWriteBytes s.ctx addr [b] s.mem = .ok { s.mem with ddr := writeByte s.mem.ddr d b } := by
    simp only [dmaWriteBytes, ht]
    rw [ddrWrite_inRange hr (show d + 1 ≤ s.ctx.params.ddrSize from hd), writeBytes_one]
  simp only [applyEvent, hw]

/-- Settles O60: the write is one byte of DDR2, and a byte reads back what was written. -/
theorem dmaBypassesCaches : Obligations.DmaBypassesCaches := by
  intro s addr b d hwf ht hr hd
  refine ⟨_, applyEvent_dmaWrite_byte ht hr hd, ?_, fun q hq => ?_, rfl⟩
  · exact (readByte_writeByte d d b hwf).trans (if_pos rfl)
  · exact (readByte_writeByte d q b hwf).trans (if_neg hq)

end Sys2Proof.Machine
end

section
/-! SUPPORT. O43: the segments of the kernel map that no page table maps, and the other modes' maps there. -/

namespace Sys2Proof.Machine

/-! The kernel map (20_memory.md R267, R271 to R273). -/

theorem kernelSegment_ckseg0 (k0 : BitVec 3) (x : BitVec 29) :
    kernelSegment k0 ((0x7FFFFFFFC : BitVec 35) ++ x) = some (.direct ((0 : BitVec 11) ++ x) k0) := by
  have hregion : ((0x7FFFFFFFC : BitVec 35) ++ x).extractLsb' 62 2 = 3 :=
    BitVec.extractLsb'_append_eq_of_le (by decide)
  have hones : ((0x7FFFFFFFC : BitVec 35) ++ x).extractLsb' 31 31 = BitVec.allOnes 31 :=
    BitVec.extractLsb'_append_eq_of_le (by decide)
  have hseg : ((0x7FFFFFFFC : BitVec 35) ++ x).extractLsb' 29 2 = 0 :=
    BitVec.extractLsb'_append_eq_of_le (by decide)
  unfold kernelSegment
  rw [hregion, hones, hseg, BitVec.extractLsb'_append_eq_right, BitVec.setWidth_eq_append (by decide)]
  rfl

theorem kernelSegment_ckseg1 (k0 : BitVec 3) (x : BitVec 29) :
    kernelSegment k0 ((0x7FFFFFFFD : BitVec 35) ++ x) = some (.direct ((0 : BitVec 11) ++ x) 2) := by
  have hregion : ((0x7FFFFFFFD : BitVec 35) ++ x).extractLsb' 62 2 = 3 :=
    BitVec.extractLsb'_append_eq_of_le (by decide)
  have hones : ((0x7FFFFFFFD : BitVec 35) ++ x).extractLsb' 31 31 = BitVec.allOnes 31 :=
    BitVec.extractLsb'_append_eq_of_le (by decide)
  have hseg : ((0x7FFFFFFFD : BitVec 35) ++ x).extractLsb' 29 2 = 1 :=
    BitVec.extractLsb'_append_eq_of_le (by decide)
  unfold kernelSegment
  rw [hregion, hones, hseg, BitVec.extractLsb'_append_eq_right, BitVec.setWidth_eq_append (by decide)]
  rfl

/-- XKPHY by its first two bits: VA[58:40] must be 0 (20_memory.md R273). -/
theorem kernelSegment_xkphy (k0 : BitVec 3) {va : Word} (h : va.extractLsb' 62 2 = 2) :
    kernelSegment k0 va = if va.extractLsb' 40 19 = 0 then
      some (.direct (va.extractLsb' 0 40) (va.extractLsb' 59 3)) else none := by
  unfold kernelSegment
  rw [h]
  rfl

/-! The maps of the other modes (20_memory.md R265, R266). -/

theorem supervisorSegment_none {va : Word} (hlo : 2 ^ 63 ≤ va.toNat) (hhi : va.toNat < 0xFFFFFFFFC0000000) :
    supervisorSegment va = none := by
  have htop : va.extractLsb' 63 1 ≠ 0#1 := fun h => by
    have h := congrArg BitVec.toNat h
    simp only [BitVec.extractLsb'_toNat, Nat.shiftRight_eq_div_pow] at h
    have hv := va.isLt
    simp at h
    omega
  have hlow : ¬0xFFFFFFFFC0000000#64 ≤ va := by
    rw [BitVec.le_def]
    simp
    omega
  simp [supervisorSegment, htop, hlow]

theorem userSegment_none {va : Word} (h : 2 ^ 63 ≤ va.toNat) : userSegment va = none := by
  have htop : va.extractLsb' 40 24 ≠ 0#24 := fun h0 => by
    have h0 := congrArg BitVec.toNat h0
    simp only [BitVec.extractLsb'_toNat, Nat.shiftRight_eq_div_pow] at h0
    have hv := va.isLt
    simp at h0
    omega
  simp [userSegment, htop]

theorem toNat_append_add {v w : Nat} (x : BitVec v) (y : BitVec w) :
    (x ++ y).toNat = x.toNat * 2 ^ w + y.toNat := by
  rw [BitVec.toNat_append, ← Nat.shiftLeft_add_eq_or_of_lt y.isLt, Nat.shiftLeft_eq]

/-- CKSEG0, CKSEG1 and XKPHY lie in the upper half, below the supervisor's segment (20_memory.md R267). -/
theorem unmapped_range {x : BitVec 29} {y : BitVec 62} {va : Word}
    (h : va ∈ [(0x7FFFFFFFC : BitVec 35) ++ x, (0x7FFFFFFFD : BitVec 35) ++ x, (2 : BitVec 2) ++ y]) :
    2 ^ 63 ≤ va.toNat ∧ va.toNat < 0xFFFFFFFFC0000000 := by
  have hx := x.isLt
  have hy := y.isLt
  simp only [List.mem_cons, List.not_mem_nil, or_false] at h
  obtain rfl | rfl | rfl := h <;> rw [toNat_append_add] <;> simp <;> omega

/-- The segment of a mode other than kernel is none there. -/
theorem segment_none {k0 : BitVec 3} {m : Mode} {va : Word} (hm : m ≠ .kernel) (hlo : 2 ^ 63 ≤ va.toNat)
    (hhi : va.toNat < 0xFFFFFFFFC0000000) : segment k0 m va = none := by
  cases m with
  | kernel => exact absurd rfl hm
  | supervisor => exact supervisorSegment_none hlo hhi
  | user => exact userSegment_none hlo

/-! What the segment decides of a translation (20_memory.md R268). -/

section
variable {s : State} {m : Mode} {va : Word}

theorem translate_direct {acc : Access} {pa : PAddr} {c : BitVec 3} (hm : s.mode = some m)
    (hs : segment (s.cp0.config.extractLsb' 0 3) m va = some (.direct pa c)) :
    translate s acc true va = .ok pa c := by
  simp [translate, hm, hs]

theorem translate_none {acc : Access} (aligned : Bool) (hm : s.mode = some m)
    (hs : segment (s.cp0.config.extractLsb' 0 3) m va = none) :
    translate s acc aligned va = .exc (.addressError (acc == .store) va) := by
  simp [translate, hm, hs]

theorem translateFetch_none (hm : s.mode = some m)
    (hs : segment (s.cp0.config.extractLsb' 0 3) m va = none) :
    translateFetch s va = (.exc (.addressError false va), s.itlb) := by
  simp [translateFetch, hm, hs]

/-- Outside the mapped segments a fetch is translated as a load is, and leaves the ITLB. -/
theorem translateFetch_unmapped (hm : s.mode = some m) (ha : alignedTo 4 va = true)
    (hs : segment (s.cp0.config.extractLsb' 0 3) m va ≠ some .mapped) :
    translateFetch s va = (translate s .fetch true va, s.itlb) := by
  cases h : segment (s.cp0.config.extractLsb' 0 3) m va with
  | none => rw [translateFetch_none hm h, translate_none _ hm h]; rfl
  | some g =>
    cases g with
    | mapped => exact absurd h hs
    | direct pa c => rw [translate_direct hm h]; simp [translateFetch, hm, ha, h]

end

/-- The kernel's map does not map the three segments. -/
theorem kernelSegment_ne_mapped {k0 : BitVec 3} {x : BitVec 29} {y : BitVec 62} {va : Word}
    (h : va ∈ [(0x7FFFFFFFC : BitVec 35) ++ x, (0x7FFFFFFFD : BitVec 35) ++ x, (2 : BitVec 2) ++ y]) :
    kernelSegment k0 va ≠ some .mapped := by
  simp only [List.mem_cons, List.not_mem_nil, or_false] at h
  obtain rfl | rfl | rfl := h
  · rw [kernelSegment_ckseg0]; nofun
  · rw [kernelSegment_ckseg1]; nofun
  · rw [kernelSegment_xkphy k0 BitVec.extractLsb'_append_eq_left]
    split <;> nofun

/-- XKPHY by its fields: the cache algorithm, the bits that must be 0, the physical address (20_memory.md R273). -/
theorem kernelSegment_xkphy_fields (k0 c : BitVec 3) (z : BitVec 19) (x : PAddr) :
    kernelSegment k0 ((2 : BitVec 2) ++ c ++ z ++ x) = if z = 0 then some (.direct x c) else none := by
  have hregion : ((2 : BitVec 2) ++ c ++ z ++ x).extractLsb' 62 2 = 2 :=
    (BitVec.extractLsb'_append_eq_of_le (by decide)).trans
      ((BitVec.extractLsb'_append_eq_of_le (by decide)).trans BitVec.extractLsb'_append_eq_left)
  have hattr : ((2 : BitVec 2) ++ c ++ z ++ x).extractLsb' 59 3 = c :=
    (BitVec.extractLsb'_append_eq_of_le (by decide)).trans
      ((BitVec.extractLsb'_append_eq_of_le (by decide)).trans BitVec.extractLsb'_append_eq_right)
  have hzero : ((2 : BitVec 2) ++ c ++ z ++ x).extractLsb' 40 19 = z :=
    (BitVec.extractLsb'_append_eq_of_le (by decide)).trans BitVec.extractLsb'_append_eq_right
  rw [kernelSegment_xkphy k0 hregion, hattr, hzero, BitVec.extractLsb'_append_eq_right]

/-- XKPHY in kernel mode: direct, or the address error of a bit that must be 0. -/
theorem translate_xkphy {s : State} (acc : Access) (c : BitVec 3) (z : BitVec 19) (x : PAddr)
    (hm : s.mode = some .kernel) :
    translate s acc true ((2 : BitVec 2) ++ c ++ z ++ x) = if z = 0 then .ok x c
      else .exc (.addressError (acc == .store) ((2 : BitVec 2) ++ c ++ z ++ x)) := by
  have hs := kernelSegment_xkphy_fields (s.cp0.config.extractLsb' 0 3) c z x
  split
  · exact translate_direct hm (hs.trans (if_pos ‹_›))
  · exact translate_none _ hm (hs.trans (if_neg ‹_›))

/-- Settles O43: each mode's map at the three segments, and what a translation makes of it. -/
theorem kernelUnmappedSegments : Obligations.KernelUnmappedSegments := by
  refine ⟨fun s acc x hm => ?_, fun s acc c z x hm => translate_xkphy acc c z x hm, fun s hm => ?_,
    fun s y x hm va hva h4 => ?_, fun s acc al x y hm va hva => ?_⟩
  · exact ⟨translate_direct hm (kernelSegment_ckseg0 _ x), translate_direct hm (kernelSegment_ckseg1 _ x)⟩
  · exact translate_direct hm (kernelSegment_ckseg1 (s.cp0.config.extractLsb' 0 3) 0x1FC00000)
  · exact translateFetch_unmapped hm (by simp [alignedTo, h4]) (kernelSegment_ne_mapped hva)
  · obtain ⟨hlo, hhi⟩ := unmapped_range hva
    obtain ⟨m, hm, hk⟩ : ∃ m, s.mode = some m ∧ m ≠ .kernel := by
      obtain hm | hm := hm
      · exact ⟨.supervisor, hm, nofun⟩
      · exact ⟨.user, hm, nofun⟩
    exact ⟨translate_none al hm (segment_none hk hlo hhi), translateFetch_none hm (segment_none hk hlo hhi)⟩

end Sys2Proof.Machine
end

section
/-! SUPPORT. O44: matches under a page mask, and the physical address a page gives. -/

namespace Sys2Proof.Machine

/-! Masks. -/

theorem xor_and_eq_zero_iff {w : Nat} (x y n : BitVec w) : (x ^^^ y) &&& n = 0 ↔ x &&& n = y &&& n := by
  have hx : (x ^^^ y) &&& n = (x &&& n) ^^^ (y &&& n) := by
    ext i
    simp [Bool.and_xor_distrib_right]
  rw [hx]
  exact BitVec.xor_eq_zero_iff

theorem merge_and_mask {w : Nat} (mask x v : BitVec w) : merge mask x v &&& mask = v &&& mask := by
  ext i
  simp [merge]
  grind

theorem mask_setWidth_27 (m : BitVec 12) : m.setWidth 27 = (0 : BitVec 15) ++ m :=
  BitVec.setWidth_eq_append (by decide)

theorem mask_setWidth_28 (m : BitVec 12) : m.setWidth 28 = (0 : BitVec 16) ++ m :=
  BitVec.setWidth_eq_append (by decide)

theorem mask_setWidth_13 (m : BitVec 12) : m.setWidth 13 = (0 : BitVec 1) ++ m :=
  BitVec.setWidth_eq_append (by decide)

theorem offsetMask_eq (m : BitVec 12) :
    (m ++ (0xFFF : BitVec 12)).setWidth 40 = (0 : BitVec 16) ++ m ++ (0xFFF : BitVec 12) := by
  rw [BitVec.setWidth_eq_append (by decide), BitVec.append_assoc]
  rfl

/-! The address in a page (20_memory.md R277). -/

theorem pageAddr_and_offset (m : BitVec 12) (pfn : BitVec 28) (va : Word) :
    pageAddr m pfn va &&& ((0 : BitVec 16) ++ m ++ (0xFFF : BitVec 12))
      = va.extractLsb' 0 40 &&& ((0 : BitVec 16) ++ m ++ (0xFFF : BitVec 12)) := by
  rw [pageAddr, offsetMask_eq]
  exact merge_and_mask _ _ _

theorem pageAddr_and_not_offset (m : BitVec 12) (pfn : BitVec 28) (va : Word) :
    pageAddr m pfn va &&& ~~~((0 : BitVec 16) ++ m ++ (0xFFF : BitVec 12))
      = (pfn ++ (0 : BitVec 12)) &&& ~~~((0 : BitVec 16) ++ m ++ (0xFFF : BitVec 12)) := by
  rw [pageAddr, offsetMask_eq]
  exact merge_and_not _ _ _

/-- The smallest page: PFN and the low twelve bits. -/
theorem pageAddr_zero (pfn : BitVec 28) (va : Word) : pageAddr 0 pfn va = pfn ++ va.extractLsb' 0 12 := by
  have hmask : ((0 : BitVec 12) ++ (0xFFF : BitVec 12)).setWidth 40 = (0 : BitVec 28) ++ BitVec.allOnes 12 := by
    decide
  have hlow : va.extractLsb' 0 40 = va.extractLsb' 12 28 ++ va.extractLsb' 0 12 :=
    (BitVec.extractLsb'_append_extractLsb'_eq_extractLsb' (start₁ := 0) (len₁ := 12) (len₂ := 28) rfl).symm
  rw [pageAddr, hmask, merge, hlow, BitVec.not_append, BitVec.and_append, BitVec.and_append, BitVec.or_append]
  simp only [BitVec.ofNat_eq_ofNat, BitVec.not_zero, BitVec.and_allOnes, BitVec.and_zero, BitVec.zero_and,
    BitVec.or_zero, BitVec.zero_or]

/-! The page an address selects, and the outcome (20_memory.md R277, R278). -/

theorem page_eq (e : TlbEntry) (va : Word) :
    e.page va = if va.extractLsb' 12 13 &&& ((0 : BitVec 1) ++ e.mask + 1) = 0 then e.even else e.odd := by
  rw [TlbEntry.page, oddPage, mask_setWidth_13]
  split <;> split <;> simp_all

section
variable {first : Bool} {acc : Access} {mask : BitVec 12} {p : TlbPage} {va : Word}

theorem pageOutcome_invalid (hv : p.v = false) (hx : acc = .fetch → p.e = true → first = false) :
    pageOutcome first acc mask p va = .exc (.tlbInvalid (acc == .store) va) := by
  cases acc <;> cases he : p.e <;> simp_all [pageOutcome]

theorem pageOutcome_modified (hv : p.v = true) (ha : acc = .store) (hd : p.d = false) :
    pageOutcome first acc mask p va = .exc (.tlbModified va) := by
  simp [pageOutcome, hv, ha, hd]

theorem pageOutcome_barred (ha : acc = .fetch) (he : p.e = true) (hv : p.v = true ∨ first = true) :
    pageOutcome first acc mask p va = .exc (.addressError false va) := by
  obtain hv | hv := hv <;> simp [pageOutcome, ha, he, hv]

theorem pageOutcome_address (hv : p.v = true) (hd : acc = .store → p.d = true) (he : acc = .fetch → p.e = false) :
    pageOutcome first acc mask p va = .ok (pageAddr mask p.pfn va) p.c := by
  cases acc <;> simp_all [pageOutcome]

end

/-! Matches (20_memory.md R276, R284). -/

/-- When an entry matches (20_memory.md R276). -/
theorem hits_iff {e : TlbEntry} {asid : BitVec 8} {va : Word} :
    e.hits asid va = true ↔
      e.vpn2 &&& ~~~((0 : BitVec 15) ++ e.mask) = va.extractLsb' 13 27 &&& ~~~((0 : BitVec 15) ++ e.mask)
      ∧ e.r = va.extractLsb' 62 2 ∧ (e.g = true ∨ e.asid = asid) := by
  simp only [TlbEntry.hits, Bool.and_eq_true, Bool.or_eq_true, beq_iff_eq, mask_setWidth_27, and_assoc]
  rw [xor_and_eq_zero_iff]

/-- When a held page matches (20_memory.md R284). -/
theorem itlbHits_iff {e : ItlbEntry} {useAsid : Bool} {asid : BitVec 8} {va : Word} :
    e.hits useAsid asid va = true ↔
      e.vpn &&& ~~~((0 : BitVec 16) ++ e.mask) = va.extractLsb' 12 28 &&& ~~~((0 : BitVec 16) ++ e.mask)
      ∧ e.r = va.extractLsb' 62 2 ∧ (e.g = true ∨ e.asid = asid ∨ useAsid = false) := by
  simp only [ItlbEntry.hits, Bool.and_eq_true, Bool.or_eq_true, beq_iff_eq, mask_setWidth_28, and_assoc, or_assoc,
    Bool.not_eq_true']
  rw [xor_and_eq_zero_iff]

/-- A held page that alone matches is the one a fetch uses (10_state.md R128). -/
theorem itlbPick_unique {s : State} {va : Word} {e : ItlbEntry} (he : e ∈ s.itlb)
    (hh : e.hits s.params.itlbAsid s.asid va = true)
    (hu : ∀ d ∈ s.itlb, d.hits s.params.itlbAsid s.asid va = true → d = e) : itlbPick s va = some e := by
  have hmem : e ∈ s.itlb.filter fun e => e.hits s.params.itlbAsid s.asid va := List.mem_filter.2 ⟨he, hh⟩
  have hall : ∀ d ∈ s.itlb.filter fun e => e.hits s.params.itlbAsid s.asid va, d = e := fun d hd =>
    hu d (List.mem_filter.1 hd).1 (List.mem_filter.1 hd).2
  unfold itlbPick
  generalize s.itlb.filter (fun e => e.hits s.params.itlbAsid s.asid va) = l at hmem hall
  match l with
  | [] => exact absurd hmem (List.not_mem_nil)
  | [d] => simp [hall d (by simp)]
  | d :: d' :: ds =>
    have hd : d = e := hall d (by simp)
    have hk : ∀ k, (d :: d' :: ds).getD k d = e := fun k => by
      rw [List.getD_eq_getElem?_getD]
      cases hg : (d :: d' :: ds)[k]? with
      | none => exact hd
      | some x => exact hall x (List.mem_of_getElem? hg)
    exact congrArg some (hk _)

theorem itlbPick_none {s : State} {va : Word} (h : ∀ e ∈ s.itlb, ¬e.hits s.params.itlbAsid s.asid va = true) :
    itlbPick s va = none := by
  have hl : (s.itlb.filter fun e => e.hits s.params.itlbAsid s.asid va) = [] := List.filter_eq_nil_iff.2 h
  unfold itlbPick
  rw [hl]

/-- A refill holds the new page (20_memory.md R284). -/
theorem mem_itlbFill (s : State) (e : ItlbEntry) : e ∈ itlbFill s e := by
  unfold itlbFill
  split
  · exact List.mem_cons_self
  · have hk : (draw 4 .victimItlb s.tick 0).toNat < s.itlb.length := by
      have hlt := (draw 4 .victimItlb s.tick 0).isLt
      omega
    exact List.mem_set hk e

/-- The page of an entry that matches an address matches it when held (20_memory.md R284). -/
theorem itlbOf_hits {e : TlbEntry} {asid : BitVec 8} {va : Word} (useAsid : Bool) (h : e.hits asid va = true) :
    (itlbOf e va).hits useAsid asid va = true := by
  obtain ⟨-, hr, hg⟩ := hits_iff.1 h
  refine itlbHits_iff.2 ⟨?_, hr, hg.imp_right .inl⟩
  rw [itlbOf, mask_setWidth_28, BitVec.and_assoc, BitVec.and_self]

/-! Translation (20_memory.md R278, R284, R285). -/

section
variable {s : State} {va : Word}

theorem jtlb_refill {acc : Access} (hs : sameSize s = true) (h : tlbHits s va = []) :
    jtlb s acc va = .exc (.tlbRefill (acc == .store) va) := by
  simp [jtlb, hs, h]

theorem jtlb_page {acc : Access} {i : Fin 64} (hs : sameSize s = true) (h : tlbHits s va = [i]) :
    jtlb s acc va = pageOutcome s.params.noExecFirst acc s.tlb[i].mask (s.tlb[i].page va) va := by
  simp [jtlb, hs, h]

theorem translateFetch_mapped {m : Mode} (hm : s.mode = some m) (h4 : va.toNat % 4 = 0)
    (hg : segment (s.cp0.config.extractLsb' 0 3) m va = some .mapped) : translateFetch s va = fetchMapped s va := by
  simp [translateFetch, hm, alignedTo, h4, hg]

theorem fetchMapped_held {e : ItlbEntry} (hs : sameSize s = true) (hp : itlbPick s va = some e) :
    fetchMapped s va = (fetchPage s e.mask e.page va, s.itlb) := by
  simp [fetchMapped, hs, hp]

theorem fetchMapped_refill (hs : sameSize s = true) (hp : itlbPick s va = none) (h : tlbHits s va = []) :
    fetchMapped s va = (.exc (.tlbRefill false va), s.itlb) := by
  simp [fetchMapped, hs, hp, h]

theorem fetchMapped_fill {i : Fin 64} (hs : sameSize s = true) (hp : itlbPick s va = none)
    (h : tlbHits s va = [i]) : fetchMapped s va =
      (fetchPage s s.tlb[i].mask (s.tlb[i].page va) va, itlbFill s (itlbOf s.tlb[i] va)) := by
  simp [fetchMapped, hs, hp, h]

theorem fetchPage_otherSize {mask : BitVec 12} {p : TlbPage} (h : mask ≠ s.maskField) :
    fetchPage s mask p va = .fault .tlbMixedPageSizes := if_neg h

theorem fetchPage_sameSize {mask : BitVec 12} {p : TlbPage} (h : mask = s.maskField) :
    fetchPage s mask p va = pageOutcome s.params.noExecFirst .fetch mask p va := if_pos h

end

/-- Settles O44: the match rule, what the JTLB makes of an access, and a fetch with a page held or with none. -/
theorem mappedAccess : Obligations.MappedAccess := by
  refine ⟨fun s va i => mem_tlbHits.trans hits_iff, fun s acc va hs => ⟨jtlb_refill hs, fun i hi => ?_⟩,
    fun s md va hm h4 hs hg => ?_⟩
  · dsimp only
    rw [← page_eq, jtlb_page hs hi]
    refine ⟨pageOutcome_invalid, pageOutcome_modified, pageOutcome_barred, fun hv hd he =>
      ⟨_, pageOutcome_address hv hd he, pageAddr_and_offset _ _ _, pageAddr_and_not_offset _ _ _, fun hz => ?_⟩⟩
    rw [hz]
    exact pageAddr_zero _ _
  · dsimp only
    rw [translateFetch_mapped hm h4 hg]
    refine ⟨fun e he hf hu => ?_, fun hn => ?_⟩
    · have hp : itlbPick s va = some e := itlbPick_unique he (itlbHits_iff.2 hf)
        fun d hd hh => hu d hd (itlbHits_iff.1 hh)
      rw [fetchMapped_held hs hp]
      refine ⟨fetchPage_otherSize, fun hz hx hv => ?_, fun hz hv hx => ?_, fun hz hv hx => ?_⟩
      · rw [fetchPage_sameSize hz, pageOutcome_barred rfl hx hv]
      · rw [fetchPage_sameSize hz, pageOutcome_invalid hv fun _ => hx]
        rfl
      · rw [fetchPage_sameSize hz, pageOutcome_address (acc := .fetch) hv (fun h => nomatch h) fun _ => hx]
        exact ⟨_, rfl, pageAddr_and_offset _ _ _, pageAddr_and_not_offset _ _ _⟩
    · have hp : itlbPick s va = none := itlbPick_none fun e he hh => hn e he (itlbHits_iff.1 hh)
      refine ⟨fetchMapped_refill hs hp, fun i hi hz => ?_⟩
      rw [fetchMapped_fill hs hp hi]
      have hh : s.tlb[i].hits s.asid va = true := mem_tlbHits.1 (by simp [hi])
      exact ⟨(fetchPage_sameSize hz).trans (jtlb_page hs hi).symm, _, mem_itlbFill _ _,
        itlbHits_iff.1 (itlbOf_hits _ hh), rfl⟩

end Sys2Proof.Machine
end

section
/-! SUPPORT. The unaligned forms as loads and stores of a part: where the bytes start, how many there are, and
how they go into the register (40_load_store.md R412 to R419). -/

namespace Sys2Proof.Machine

/-- LWL's word: the bytes of memory above the register's low bytes (R412). -/
def intoLwl (b : Nat) (old : Word) (d : BitVec 256) : Word :=
  sext32 (merge (BitVec.allOnes 32 <<< (8 * (3 - b))) (lo32 old) (d.setWidth 32 <<< (8 * (3 - b))))

/-- LWR's word: the bytes of memory below the register's high bytes (R413). -/
def intoLwr (b : Nat) (old : Word) (d : BitVec 256) : Word :=
  sext32 (merge (BitVec.allOnes 32 >>> (8 * b)) (lo32 old) (d.setWidth 32))

/-- LDL's doubleword (R414). -/
def intoLdl (b : Nat) (old : Word) (d : BitVec 256) : Word :=
  merge (BitVec.allOnes 64 <<< (8 * (7 - b))) old (d.setWidth 64 <<< (8 * (7 - b)))

/-- LDR's doubleword (R415). -/
def intoLdr (b : Nat) (old : Word) (d : BitVec 256) : Word :=
  merge (BitVec.allOnes 64 >>> (8 * b)) old (d.setWidth 64)

/-- The addressed byte's number in its word. -/
def State.wordByte (s : State) (base : Reg) (offset : Imm16) : Nat := ((s.ea base offset).extractLsb' 0 2).toNat
/-- The addressed byte's number in its doubleword. -/
def State.doubleByte (s : State) (base : Reg) (offset : Imm16) : Nat := ((s.ea base offset).extractLsb' 0 3).toNat

section
variable (s : State) (base rt : Reg) (offset : Imm16)

theorem exec_lwl : exec (.lwl base rt offset) s = loadPart rt (s.ea base offset) (s.ea base offset &&& ~~~3)
    (s.wordByte base offset + 1) (intoLwl (s.wordByte base offset)) s := rfl

theorem exec_lwr : exec (.lwr base rt offset) s = loadPart rt (s.ea base offset) (s.ea base offset)
    (4 - s.wordByte base offset) (intoLwr (s.wordByte base offset)) s := rfl

theorem exec_ldl : exec (.ldl base rt offset) s = loadPart rt (s.ea base offset) (s.ea base offset &&& ~~~7)
    (s.doubleByte base offset + 1) (intoLdl (s.doubleByte base offset)) s := rfl

theorem exec_ldr : exec (.ldr base rt offset) s = loadPart rt (s.ea base offset) (s.ea base offset)
    (8 - s.doubleByte base offset) (intoLdr (s.doubleByte base offset)) s := rfl

theorem exec_swl : exec (.swl base rt offset) s = storePart (s.ea base offset) (s.ea base offset &&& ~~~3)
    (s.wordByte base offset + 1) ((lo32 (s.reg rt) >>> (8 * (3 - s.wordByte base offset))).setWidth 64) s := rfl

theorem exec_swr : exec (.swr base rt offset) s = storePart (s.ea base offset) (s.ea base offset)
    (4 - s.wordByte base offset) (s.reg rt) s := rfl

theorem exec_sdl : exec (.sdl base rt offset) s = storePart (s.ea base offset) (s.ea base offset &&& ~~~7)
    (s.doubleByte base offset + 1) (s.reg rt >>> (8 * (7 - s.doubleByte base offset))) s := rfl

theorem exec_sdr : exec (.sdr base rt offset) s = storePart (s.ea base offset) (s.ea base offset)
    (8 - s.doubleByte base offset) (s.reg rt) s := rfl

end

end Sys2Proof.Machine
end

section
/-! SUPPORT. O42: an access whose translation ends in an exception takes it and does nothing else. -/

namespace Sys2Proof.Machine

/-! Translation (20_memory.md R256, 11_cp0_registers.md R202). -/

section
variable {s : State} {va : Word}

theorem translate_misaligned (acc : Access) (hm : s.mode ≠ none) :
    translate s acc false va = .exc (.addressError (acc == .store) va) := by
  obtain ⟨m, hm⟩ := Option.ne_none_iff_exists'.1 hm
  simp [translate, hm]

theorem translateData_misaligned (store : Bool) (hm : s.mode ≠ none) :
    translateData s store false va = .exc (.addressError store va) := by
  cases store <;> simp [translateData, translate_misaligned, hm]

theorem translateFetch_misaligned (hm : s.mode ≠ none) (h4 : va.toNat % 4 ≠ 0) :
    translateFetch s va = (.exc (.addressError false va), s.itlb) := by
  obtain ⟨m, hm⟩ := Option.ne_none_iff_exists'.1 hm
  simp [translateFetch, hm, alignedTo, h4]

/-- An address that passes every check and is watched (60_exceptions.md R873). -/
theorem translateData_watched {store aligned : Bool} {pa : PAddr} {c : BitVec 3}
    (ht : translate s (if store then .store else .load) aligned va = .ok pa c) (hw : watched s store va = true) :
    translateData s store aligned va = .exc .watch := by
  simp [translateData, ht, hw]

end

/-! The shared operations: the exception of the translation is the instruction's (40_load_store.md R401). -/

section
variable {s : State} {base rt : Reg} {offset : Imm16} {n : Nat} {e : Exc}

theorem memRead_exc {al : Bool} {va : Word} (start : Word) (n : Nat) (h : translateData s false al va = .exc e) :
    memRead s al va start n = .exc e s.mem := by
  simp [memRead, h]

theorem memWrite_exc {al : Bool} {va : Word} (start : Word) (n : Nat) (v : BitVec 256)
    (h : translateData s true al va = .exc e) : memWrite s al va start n v = .exc e s.mem := by
  simp [memWrite, h]

theorem loadReg_exc {ext : BitVec 256 → Word}
    (h : translateData s false (alignedTo n (s.ea base offset)) (s.ea base offset) = .exc e) (hr : rt ≠ 0) :
    loadReg base rt offset n ext s = .next (takeException e s) := by
  unfold loadReg
  rw [if_neg hr, memRead_exc _ _ h]
  rfl

theorem loadPart_exc {va start : Word} {into : Word → BitVec 256 → Word}
    (h : translateData s false true va = .exc e) (hr : rt ≠ 0) :
    loadPart rt va start n into s = .next (takeException e s) := by
  unfold loadPart
  rw [if_neg hr, memRead_exc _ _ h]
  rfl

theorem storeMem_exc {v : Word}
    (h : translateData s true (alignedTo n (s.ea base offset)) (s.ea base offset) = .exc e) :
    storeMem base offset n v s = .next (takeException e s) := by
  unfold storeMem
  dsimp only
  rw [memWrite_exc _ _ _ h]
  rfl

theorem storePart_exc {va start v : Word} (h : translateData s true true va = .exc e) :
    storePart va start n v s = .next (takeException e s) := by
  unfold storePart
  rw [memWrite_exc _ _ _ h]
  rfl

theorem loadLinked_exc {ext : BitVec 256 → Word}
    (h : translateData s false (alignedTo n (s.ea base offset)) (s.ea base offset) = .exc e) :
    loadLinked base rt offset n ext s = .next (takeException e s) := by
  unfold loadLinked
  dsimp only
  rw [h]
  rfl

theorem storeConditional_exc
    (h : translate s .store (alignedTo n (s.ea base offset)) (s.ea base offset) = .exc e) :
    storeConditional base rt offset n s = .next (takeException e s) := by
  unfold storeConditional
  dsimp only
  rw [h]
  rfl

theorem withCp1_usable {r : Res} (h : s.cu 1 = true) : withCp1 s r = r := if_pos h

theorem withDouble_one {r : Res} (h : s.doubleOk rt = true) : withDouble s [rt] r = r := by
  simp [withDouble, h]

theorem execLwc1_exc (h : translateData s false (alignedTo 4 (s.ea base offset)) (s.ea base offset) = .exc e)
    (hu : s.cu 1 = true) : execLwc1 base rt offset s = .next (takeException e s) := by
  unfold execLwc1
  rw [withCp1_usable hu, memRead_exc _ _ h]
  rfl

theorem execLdc1_exc (h : translateData s false (alignedTo 8 (s.ea base offset)) (s.ea base offset) = .exc e)
    (hu : s.cu 1 = true) (hd : s.doubleOk rt = true) :
    execLdc1 base rt offset s = .next (takeException e s) := by
  unfold execLdc1
  rw [withCp1_usable hu, withDouble_one hd, memRead_exc _ _ h]
  rfl

theorem execSwc1_exc (h : translateData s true (alignedTo 4 (s.ea base offset)) (s.ea base offset) = .exc e)
    (hu : s.cu 1 = true) : execSwc1 base rt offset s = .next (takeException e s) :=
  (withCp1_usable hu).trans (storeMem_exc h)

theorem execSdc1_exc (h : translateData s true (alignedTo 8 (s.ea base offset)) (s.ea base offset) = .exc e)
    (hu : s.cu 1 = true) (hd : s.doubleOk rt = true) :
    execSdc1 base rt offset s = .next (takeException e s) :=
  (withCp1_usable hu).trans ((withDouble_one hd).trans (storeMem_exc h))

end

/-- A fetch at a misaligned pc (20_memory.md R258). -/
theorem fetch_misaligned {s : State} (hm : s.mode ≠ none) (h4 : s.pc.toNat % 4 ≠ 0) :
    fetch s = .taken (takeException (.addressError false s.pc) s) := by
  unfold fetch
  rw [translateFetch_misaligned hm h4]

theorem alignedTo_false {n : Nat} {va : Word} (h : va.toNat % n ≠ 0) : alignedTo n va = false := by
  simp [alignedTo, h]

theorem alignedTo_one (va : Word) : alignedTo 1 va = true := by simp [alignedTo, Nat.mod_one]

/-- Every form at a misaligned address takes its address error (20_memory.md R256, 60_exceptions.md R855). -/
theorem misaligned_takes_addressError (s : State) (base rt : Reg) (offset : Imm16) (hm : s.mode ≠ none) :
    let va := s.reg base + BitVec.ofInt 64 offset.toInt
    let load := fun i : Instr => Takes i (.addressError false va) s
    let store := fun i : Instr => Takes i (.addressError true va) s
    (va.toNat % 2 ≠ 0 → (rt ≠ 0 → load (.lh base rt offset) ∧ load (.lhu base rt offset))
      ∧ store (.sh base rt offset))
    ∧ (va.toNat % 4 ≠ 0 → (rt ≠ 0 → load (.lw base rt offset) ∧ load (.lwu base rt offset))
      ∧ load (.ll base rt offset) ∧ store (.sw base rt offset) ∧ store (.sc base rt offset)
      ∧ (s.cu 1 = true → load (.lwc1 base rt offset) ∧ store (.swc1 base rt offset)))
    ∧ (va.toNat % 8 ≠ 0 → (rt ≠ 0 → load (.ld base rt offset))
      ∧ load (.lld base rt offset) ∧ store (.sd base rt offset) ∧ store (.scd base rt offset)
      ∧ (s.cu 1 = true → s.doubleOk rt = true →
        load (.ldc1 base rt offset) ∧ store (.sdc1 base rt offset))) := by
  intro va load store
  have haddr : s.ea base offset = va := rfl
  have hdata : ∀ n st, va.toNat % n ≠ 0 →
      translateData s st (alignedTo n va) va = .exc (.addressError st va) := fun n st h => by
    rw [alignedTo_false h]
    exact translateData_misaligned st hm
  have hcond : ∀ n, va.toNat % n ≠ 0 →
      translate s .store (alignedTo n va) va = .exc (.addressError true va) := fun n h => by
    rw [alignedTo_false h]
    exact translate_misaligned .store hm
  refine ⟨fun h => ?_, fun h => ?_, fun h => ?_⟩
  · exact ⟨fun hr => ⟨loadReg_exc (hdata 2 false h) hr, loadReg_exc (hdata 2 false h) hr⟩,
      storeMem_exc (hdata 2 true h)⟩
  · exact ⟨fun hr => ⟨loadReg_exc (hdata 4 false h) hr, loadReg_exc (hdata 4 false h) hr⟩,
      loadLinked_exc (hdata 4 false h), storeMem_exc (hdata 4 true h), storeConditional_exc (hcond 4 h),
      fun hu => ⟨execLwc1_exc (hdata 4 false h) hu, execSwc1_exc (hdata 4 true h) hu⟩⟩
  · exact ⟨loadReg_exc (hdata 8 false h), loadLinked_exc (hdata 8 false h), storeMem_exc (hdata 8 true h),
      storeConditional_exc (hcond 8 h),
      fun hu hd => ⟨execLdc1_exc (hdata 8 false h) hu hd, execSdc1_exc (hdata 8 true h) hu hd⟩⟩

/-- Settles O42: the misaligned accesses, the misaligned fetch, and form by form the watched accesses. -/
theorem misalignedOrWatched : Obligations.MisalignedOrWatched := by
  refine ⟨misaligned_takes_addressError, fun s hm h4 => fetch_misaligned hm h4, ?_⟩
  intro s base rt offset va reads writes hva
  have hread : ∀ n, reads n → translateData s false (alignedTo n va) va = .exc .watch := by
    rintro n ⟨hw, pa, c, ht⟩
    exact translateData_watched ht (by simp [watched, hva, hw])
  have hwrite : ∀ n, writes n → translateData s true (alignedTo n va) va = .exc .watch := by
    rintro n ⟨hw, pa, c, ht⟩
    exact translateData_watched ht (by simp [watched, hva, hw])
  have hpart : reads 1 → translateData s false true va = .exc .watch := fun h => by
    simpa only [alignedTo_one] using hread 1 h
  have hpartw : writes 1 → translateData s true true va = .exc .watch := fun h => by
    simpa only [alignedTo_one] using hwrite 1 h
  simp only [List.forall_mem_cons, List.not_mem_nil, false_imp_iff, implies_true, and_true]
  refine ⟨fun h hr => ?_, fun h hr => ?_, fun h hr => ?_, fun h hr => ?_, fun h => ?_, fun h => ?_, fun h => ?_,
    fun h => ?_, fun h => ?_, fun h => ?_, fun hu => ?_⟩
  · exact ⟨loadReg_exc (hread 1 h) hr, loadReg_exc (hread 1 h) hr,
      (exec_lwl s base rt offset).trans (loadPart_exc (hpart h) hr),
      (exec_lwr s base rt offset).trans (loadPart_exc (hpart h) hr),
      (exec_ldl s base rt offset).trans (loadPart_exc (hpart h) hr),
      (exec_ldr s base rt offset).trans (loadPart_exc (hpart h) hr)⟩
  · exact ⟨loadReg_exc (hread 2 h) hr, loadReg_exc (hread 2 h) hr⟩
  · exact ⟨loadReg_exc (hread 4 h) hr, loadReg_exc (hread 4 h) hr⟩
  · exact loadReg_exc (hread 8 h) hr
  · exact loadLinked_exc (hread 4 h)
  · exact loadLinked_exc (hread 8 h)
  · exact ⟨storeMem_exc (hwrite 1 h),
      (exec_swl s base rt offset).trans (storePart_exc (hpartw h)),
      (exec_swr s base rt offset).trans (storePart_exc (hpartw h)),
      (exec_sdl s base rt offset).trans (storePart_exc (hpartw h)),
      (exec_sdr s base rt offset).trans (storePart_exc (hpartw h))⟩
  · exact storeMem_exc (hwrite 2 h)
  · exact storeMem_exc (hwrite 4 h)
  · exact storeMem_exc (hwrite 8 h)
  · exact ⟨fun h => execLwc1_exc (hread 4 h) hu, fun h => execSwc1_exc (hwrite 4 h) hu,
      fun hd => ⟨fun h => execLdc1_exc (hread 8 h) hu hd, fun h => execSdc1_exc (hwrite 8 h) hu hd⟩⟩

end Sys2Proof.Machine
end

section
/-! SUPPORT. Bytes of words: what the field helpers read and write, byte by byte (20_memory.md R250, R251). -/

namespace Sys2Proof.Machine

section
variable {w : Nat}

theorem getLsbD_merge (mask x v : BitVec w) (i : Nat) :
    (merge mask x v).getLsbD i = if mask.getLsbD i then v.getLsbD i else x.getLsbD i := by
  by_cases hi : i < w
  · simp only [merge, BitVec.getLsbD_or, BitVec.getLsbD_and, BitVec.getLsbD_not, hi]
    cases mask.getLsbD i <;> simp
  · simp [BitVec.getLsbD_of_ge _ _ (Nat.le_of_not_lt hi)]

theorem getLsbD_byteMask (off n i : Nat) :
    (byteMask w off n).getLsbD i = (decide (i < w) && decide (8 * off ≤ i) && decide (i < 8 * (off + n))) := by
  unfold byteMask
  rw [BitVec.getLsbD_ofNat, Nat.testBit_shiftLeft, Nat.testBit_two_pow_sub_one]
  grind

/-- A byte of a word: eight of its bits. -/
theorem byte_ext {v : Nat} {x : BitVec w} {y : BitVec v} {i j : Nat}
    (h : ∀ b, b < 8 → x.getLsbD (i + b) = y.getLsbD (j + b)) : x.extractLsb' i 8 = y.extractLsb' j 8 :=
  BitVec.eq_of_getLsbD_eq fun b hb => by simpa [hb] using h b hb

/-- A written byte reads back (R251). -/
theorem byte_putBytes_same {x : BitVec w} {off n k : Nat} (v : BitVec 256) (hk : k < n) (hw : 8 * (off + k) + 8 ≤ w) :
    (putBytes x off n v).extractLsb' (8 * (off + k)) 8 = v.extractLsb' (8 * k) 8 := by
  refine byte_ext fun b hb => ?_
  have hpos : 8 * (off + k) + b - 8 * off = 8 * k + b := by omega
  have hlt : 8 * k + b < w := by omega
  simp only [putBytes, getLsbD_merge, getLsbD_byteMask, BitVec.getLsbD_shiftLeft, BitVec.getLsbD_setWidth, hpos]
  grind

/-- Every byte but the written ones stays (R251). -/
theorem byte_putBytes_other {x : BitVec w} {off n j : Nat} (v : BitVec 256) (hj : j < off ∨ off + n ≤ j) :
    (putBytes x off n v).extractLsb' (8 * j) 8 = x.extractLsb' (8 * j) 8 := by
  refine byte_ext fun b hb => ?_
  simp only [putBytes, getLsbD_merge, getLsbD_byteMask]
  grind

theorem byte_getBytes {x : BitVec w} {off n k : Nat} (hk : k < n) (h256 : 8 * k + 8 ≤ 256) (hw : 8 * k + 8 ≤ w) :
    (getBytes x off n).extractLsb' (8 * k) 8 = x.extractLsb' (8 * (off + k)) 8 := by
  refine byte_ext fun b hb => ?_
  simp only [getBytes, BitVec.getLsbD_setWidth, BitVec.getLsbD_and, getLsbD_byteMask, BitVec.getLsbD_ushiftRight]
  grind

end

/-- The number of the bytes of a line (R250). -/
theorem toNat_getBytes (d : BitVec 256) (off : Nat) {n : Nat} (hn : n ≤ 32) :
    (getBytes d off n).toNat = lineNat d off n := by
  have hp : 2 ^ (8 * n) ≤ 2 ^ 256 := Nat.pow_le_pow_right (by decide) (by omega)
  have h0 : 0 < 2 ^ (8 * n) := Nat.two_pow_pos _
  have hmask : (byteMask 256 0 n).toNat = 2 ^ (8 * n) - 1 := by
    rw [byteMask, Nat.mul_zero, Nat.shiftLeft_zero, BitVec.toNat_ofNat, Nat.mod_eq_of_lt (by omega)]
  rw [getBytes, BitVec.setWidth_eq, BitVec.toNat_and, hmask, Nat.and_two_pow_sub_one_eq_mod,
    BitVec.toNat_ushiftRight, Nat.shiftRight_eq_div_pow, lineNat, Nat.pow_mul, Nat.pow_mul]

theorem getBytes_eq_ofNat (d : BitVec 256) (off : Nat) {n : Nat} (hn : n ≤ 32) :
    getBytes d off n = BitVec.ofNat 256 (lineNat d off n) := by
  rw [← toNat_getBytes d off hn, BitVec.ofNat_toNat, BitVec.setWidth_eq]

/-! The unaligned loads byte by byte (40_load_store.md R411). -/

/-- High bytes taken from `y`, low ones kept: `c` is the first byte taken. -/
theorem byte_merge_high {w N : Nat} (x y : BitVec w) {c k : Nat} (hw : w = 8 * N) (hk : k < N) :
    (merge (BitVec.allOnes w <<< (8 * c)) x (y <<< (8 * c))).extractLsb' (8 * k) 8
      = if c ≤ k then y.extractLsb' (8 * (k - c)) 8 else x.extractLsb' (8 * k) 8 := by
  split
  · refine byte_ext fun b hb => ?_
    have hpos : 8 * k + b - 8 * c = 8 * (k - c) + b := by omega
    simp only [getLsbD_merge, BitVec.getLsbD_shiftLeft, BitVec.getLsbD_allOnes, hpos]
    grind
  · refine byte_ext fun b hb => ?_
    simp only [getLsbD_merge, BitVec.getLsbD_shiftLeft, BitVec.getLsbD_allOnes]
    grind

/-- Low bytes taken from `y`, the `c` highest kept. -/
theorem byte_merge_low {w N : Nat} (x y : BitVec w) {c k : Nat} (hw : w = 8 * N) :
    (merge (BitVec.allOnes w >>> (8 * c)) x y).extractLsb' (8 * k) 8
      = if k + c < N then y.extractLsb' (8 * k) 8 else x.extractLsb' (8 * k) 8 := by
  split
  · refine byte_ext fun b hb => ?_
    simp only [getLsbD_merge, BitVec.getLsbD_ushiftRight, BitVec.getLsbD_allOnes]
    grind
  · refine byte_ext fun b hb => ?_
    simp only [getLsbD_merge, BitVec.getLsbD_ushiftRight, BitVec.getLsbD_allOnes]
    grind

theorem byte_setWidth {v w : Nat} (x : BitVec w) {k : Nat} (h : 8 * k + 8 ≤ v) :
    (x.setWidth v).extractLsb' (8 * k) 8 = x.extractLsb' (8 * k) 8 :=
  byte_ext fun b hb => by
    rw [BitVec.getLsbD_setWidth, decide_eq_true (by omega), Bool.true_and]

theorem byte_sext32 (x : BitVec 32) {k : Nat} (h : k < 4) :
    (sext32 x).extractLsb' (8 * k) 8 = x.extractLsb' (8 * k) 8 :=
  byte_ext fun b hb => by
    rw [BitVec.getLsbD_signExtend, decide_eq_true (by omega), Bool.true_and, if_pos (by omega)]

theorem byte_lo32 (x : Word) {k : Nat} (h : k < 4) :
    (lo32 x).extractLsb' (8 * k) 8 = x.extractLsb' (8 * k) 8 :=
  byte_ext fun b hb => by
    rw [BitVec.getLsbD_extractLsb', decide_eq_true (by omega), Bool.true_and, Nat.zero_add]

theorem isWord_sext32 (x : BitVec 32) : IsWord (sext32 x) := by
  have h : lo32 (sext32 x) = x := BitVec.eq_of_getLsbD_eq fun i hi => by
    simp only [BitVec.getLsbD_extractLsb', BitVec.getLsbD_signExtend]
    grind
  rw [IsWord, h]

section
variable {b k : Nat} (old : Word) (line : BitVec 256)

/-- LWL (R412). -/
theorem byte_intoLwl (hb : b < 4) (a : Nat) (hk : k < 4) :
    (intoLwl b old (getBytes line a (b + 1))).extractLsb' (8 * k) 8
      = if 3 - b ≤ k then line.extractLsb' (8 * (a + (k - (3 - b)))) 8 else old.extractLsb' (8 * k) 8 := by
  rw [intoLwl, byte_sext32 _ hk, byte_merge_high (N := 4) _ _ rfl hk, byte_lo32 _ hk]
  split
  · rw [byte_setWidth _ (by omega), byte_getBytes (by omega) (by omega) (by omega)]
  · rfl

/-- LWR (R413). -/
theorem byte_intoLwr (a : Nat) (hk : k < 4) :
    (intoLwr b old (getBytes line a (4 - b))).extractLsb' (8 * k) 8
      = if k + b ≤ 3 then line.extractLsb' (8 * (a + k)) 8 else old.extractLsb' (8 * k) 8 := by
  rw [intoLwr, byte_sext32 _ hk, byte_merge_low (N := 4) _ _ rfl, byte_lo32 _ hk]
  split
  · rw [if_pos (by omega), byte_setWidth _ (by omega), byte_getBytes (by omega) (by omega) (by omega)]
  · rw [if_neg (by omega)]

/-- LDL (R414). -/
theorem byte_intoLdl (hb : b < 8) (a : Nat) (hk : k < 8) :
    (intoLdl b old (getBytes line a (b + 1))).extractLsb' (8 * k) 8
      = if 7 - b ≤ k then line.extractLsb' (8 * (a + (k - (7 - b)))) 8 else old.extractLsb' (8 * k) 8 := by
  rw [intoLdl, byte_merge_high (N := 8) _ _ rfl hk]
  split
  · rw [byte_setWidth _ (by omega), byte_getBytes (by omega) (by omega) (by omega)]
  · rfl

/-- LDR (R415). -/
theorem byte_intoLdr (a : Nat) (hk : k < 8) :
    (intoLdr b old (getBytes line a (8 - b))).extractLsb' (8 * k) 8
      = if k + b ≤ 7 then line.extractLsb' (8 * (a + k)) 8 else old.extractLsb' (8 * k) 8 := by
  rw [intoLdr, byte_merge_low (N := 8) _ _ rfl]
  split
  · rw [if_pos (by omega), byte_setWidth _ (by omega), byte_getBytes (by omega) (by omega) (by omega)]
  · rw [if_neg (by omega)]

end

end Sys2Proof.Machine
end

section
/-! SUPPORT. The address of an access in its line, and an access that hits the data cache (20_memory.md R292). -/

namespace Sys2Proof.Machine

/-! The offset of an address in its line. -/

/-- The smallest page's offset is the virtual address's (20_memory.md R277). -/
theorem pageAddr_low12 (m : BitVec 12) (pfn : BitVec 28) (va : Word) :
    (pageAddr m pfn va).extractLsb' 0 12 = va.extractLsb' 0 12 := by
  have hmask : ((0 : BitVec 16) ++ m ++ (0xFFF : BitVec 12)).extractLsb' 0 12 = BitVec.allOnes 12 :=
    BitVec.extractLsb'_append_eq_right
  have h := congrArg (BitVec.extractLsb' 0 12) (pageAddr_and_offset m pfn va)
  rw [BitVec.extractLsb'_and, BitVec.extractLsb'_and, hmask, BitVec.and_allOnes, BitVec.and_allOnes] at h
  rw [h]
  ext i hi
  simp

/-- A direct segment keeps the offset in the smallest page (20_memory.md R271 to R273). -/
theorem segment_low12 {k0 : BitVec 3} {m : Mode} {va : Word} {pa : PAddr} {c : BitVec 3}
    (h : segment k0 m va = some (.direct pa c)) : pa.extractLsb' 0 12 = va.extractLsb' 0 12 := by
  cases m with
  | kernel =>
    simp only [segment, kernelSegment] at h
    repeat' split at h
    all_goals simp only [Option.some.injEq, Segment.direct.injEq, reduceCtorEq] at h
    all_goals
      obtain ⟨rfl, -⟩ := h
      ext i hi
      simp [show i < 40 by omega, show i < 29 by omega]
  | supervisor =>
    simp only [segment, supervisorSegment] at h
    repeat' split at h
    all_goals simp at h
  | user =>
    simp only [segment, userSegment] at h
    split at h <;> simp at h

section
variable {s : State} {va : Word} {pa : PAddr} {c : BitVec 3} {al : Bool}

/-- A translation that gives an address: the alignment rule holds, and the address is a direct segment's or
in a page of the JTLB (20_memory.md R268). -/
theorem translate_ok {acc : Access} (h : translate s acc al va = .ok pa c) : al = true
    ∧ ((∃ m, segment (s.cp0.config.extractLsb' 0 3) m va = some (.direct pa c))
      ∨ ∃ mask pfn, pa = pageAddr mask pfn va) := by
  unfold translate at h
  split at h
  · cases h
  · split at h
    · cases h
    · rename_i hal
      refine ⟨by simpa using hal, ?_⟩
      split at h
      · cases h
      · cases h; exact .inl ⟨_, ‹_›⟩
      · unfold jtlb at h
        split at h
        · cases h
        · split at h
          · cases h
          · obtain ⟨-, hpa, -⟩ := pageOutcome_ok h
            exact .inr ⟨_, _, hpa⟩
          · cases h

/-- A data translation that gives an address is one of the access kind, not watched. -/
theorem translateData_ok {store : Bool} (h : translateData s store al va = .ok pa c) :
    translate s (if store then .store else .load) al va = .ok pa c ∧ watched s store va = false := by
  unfold translateData at h
  split at h
  · split at h
    · cases h
    · cases h; exact ⟨‹_›, Bool.eq_false_iff.2 ‹_›⟩
  · rename_i hne
    exact absurd h (hne pa c)

theorem translateData_aligned {store : Bool} (h : translateData s store al va = .ok pa c) : al = true := by
  obtain ⟨ht, -⟩ := translateData_ok h
  exact (translate_ok ht).1

/-- A translated address has the page offset of the virtual one. -/
theorem translateData_low12 {store : Bool} (h : translateData s store al va = .ok pa c) :
    pa.extractLsb' 0 12 = va.extractLsb' 0 12 := by
  obtain ⟨ht, -⟩ := translateData_ok h
  obtain ⟨-, ⟨m, hs⟩ | ⟨mask, pfn, rfl⟩⟩ := translate_ok ht
  · exact segment_low12 hs
  · exact pageAddr_low12 mask pfn va

theorem lineOff_eq (pa : PAddr) : lineOff pa = pa.toNat % 32 := by
  simp [lineOff]

theorem lineOff_sameDouble (pa : PAddr) (start : Word) :
    lineOff (sameDouble pa start) = lineOff pa / 8 * 8 + start.toNat % 8 := by
  rw [lineOff_eq, lineOff_eq, sameDouble, toNat_append_add, BitVec.extractLsb'_toNat, BitVec.extractLsb'_toNat,
    Nat.shiftRight_eq_div_pow]
  simp only [Nat.shiftRight_zero]
  omega

/-- The bytes of an access that start at `start` lie in the doubleword of `va`. -/
theorem lineOff_access {store : Bool} (h : translateData s store al va = .ok pa c) (start : Word) :
    lineOff (sameDouble pa start) = va.toNat % 32 / 8 * 8 + start.toNat % 8 := by
  have hlow := congrArg BitVec.toNat (translateData_low12 h)
  simp only [BitVec.extractLsb'_toNat, Nat.shiftRight_zero] at hlow
  rw [lineOff_sameDouble, lineOff_eq, show pa.toNat % 32 = va.toNat % 32 by omega]

theorem l1Tag_sameDouble (pa : PAddr) (start : Word) : l1Tag (sameDouble pa start) = l1Tag pa := by
  unfold l1Tag sameDouble
  rw [BitVec.extractLsb'_append_eq_of_le (by decide)]
  ext i hi
  simp [show 9 + i < 37 by omega, show 3 + (9 + i) = 12 + i by omega]

end

/-! A hit (20_memory.md R292). -/

section
variable {s : State} {va : Word} {w : Nat} {al store : Bool}

/-- The only way that holds the line is the one that hits (10_state.md R130). -/
theorem dHit_of_only {m : MemSys} {set : Nat} {pa : PAddr} (hw : w < 4)
    (h : ∀ v, v < 4 → ((dGet m set v).cs ≠ 0 ∧ (dGet m set v).tag = l1Tag pa ↔ v = w)) : dHit m set pa = some w := by
  have hp : ∀ v, v < 4 → ((dGet m set v).cs != 0 && (dGet m set v).tag == l1Tag pa) = decide (v = w) :=
    fun v hv => by
      rw [Bool.eq_iff_iff, Bool.and_eq_true, bne_iff_ne, beq_iff_eq, decide_eq_true_iff]
      exact h v hv
  simp only [dHit, ways, List.find?, hp 0 (by decide), hp 1 (by decide), hp 2 (by decide), hp 3 (by decide)]
  interval_cases w <;> rfl

/-- A hit finds its way without a fill. -/
theorem CacheHit.ensureD (h : CacheHit s store al va w) : ∃ pa, translateData s store al va = .ok pa 3 ∧ w < 4
    ∧ ∀ acc start, ensureD s.ctx acc va (sameDouble pa start) s.mem = .ok w s.mem := by
  obtain ⟨pa, ht, hc, hw, honly⟩ := h
  refine ⟨pa, ht, hw, fun acc start => ?_⟩
  have hhit : dHit s.mem (l1Set va) (sameDouble pa start) = some w := dHit_of_only hw (by
    rw [l1Tag_sameDouble]
    exact honly)
  simp [Machine.ensureD, hc, hhit]

theorem CacheHit.lt (h : CacheHit s store al va w) : w < 4 := by
  obtain ⟨-, -, hw, -⟩ := h.ensureD
  exact hw

theorem CacheHit.aligned (h : CacheHit s store al va w) : al = true := by
  obtain ⟨pa, ht, -⟩ := h
  exact translateData_aligned ht

/-- A read that hits takes the bytes of the line and changes nothing. -/
theorem memRead_hit (h : CacheHit s false al va w) (start : Word) (n : Nat) :
    memRead s al va start n = .ok (getBytes (dGet s.mem (l1Set va) w).data
      (va.toNat % 32 / 8 * 8 + start.toNat % 8) n) s.mem := by
  obtain ⟨pa, ht, -, hen⟩ := h.ensureD
  simp [memRead, ht, readAttr, hen, MemRes.bind, lineOff_access ht]

/-- The memory system with bytes of a data-cache line replaced, the line Dirty (20_memory.md R292). -/
def lineStored (m : MemSys) (set w off n : Nat) (v : BitVec 256) : MemSys :=
  dSet m set w { dGet m set w with cs := 3, data := putBytes (dGet m set w).data off n v }

/-- A write that hits puts its bytes into the line. -/
theorem memWrite_hit (h : CacheHit s true al va w) (start : Word) (n : Nat) (v : BitVec 256) :
    memWrite s al va start n v = .ok () (lineStored s.mem (l1Set va) w
      (va.toNat % 32 / 8 * 8 + start.toNat % 8) n v) := by
  obtain ⟨pa, ht, -, hen⟩ := h.ensureD
  simp [memWrite, ht, writeAttr, hen, MemRes.bind, lineOff_access ht, lineStored]

theorem writeAttr_hit {pa : PAddr} (h : CacheHit s true al va w) (ht : translateData s true al va = .ok pa 3)
    (n : Nat) (v : BitVec 256) :
    writeAttr s.ctx 3 va pa n v s.mem = .ok () (lineStored s.mem (l1Set va) w (va.toNat % 32) n v) := by
  have hoff : va.toNat % 32 / 8 * 8 + va.toNat % 8 = va.toNat % 32 := by omega
  have hm := memWrite_hit h va n v
  simpa only [memWrite, ht, translateData_same ht, hoff] using hm

theorem readAttr_hit {pa : PAddr} (h : CacheHit s false al va w) (ht : translateData s false al va = .ok pa 3)
    (n : Nat) : readAttr s.ctx 3 va pa n s.mem
      = .ok (getBytes (dGet s.mem (l1Set va) w).data (va.toNat % 32) n) s.mem := by
  have hoff : va.toNat % 32 / 8 * 8 + va.toNat % 8 = va.toNat % 32 := by omega
  have hm := memRead_hit h va n
  simpa only [memRead, ht, translateData_same ht, hoff] using hm

/-- The state with the low bytes of `v` stored into a data-cache line. -/
def State.storedLine (s : State) (set w off n : Nat) (v : Word) : State :=
  { s with mem := lineStored s.mem set w off n (v.setWidth 256) }

@[simp] theorem storedLine_mem (s : State) (set w off n : Nat) (v : Word) :
    (s.storedLine set w off n v).mem = lineStored s.mem set w off n (v.setWidth 256) := rfl

/-- A line stored to, in the terms claims are stated in. -/
theorem onlyLine_lineStored {set off n : Nat} {v v' : Word} (hw : w < 4) (hoff : off + n ≤ 32)
    (hv : ∀ k, k < n → v.extractLsb' (8 * k) 8 = v'.extractLsb' (8 * k) 8) :
    OnlyLine set w off n v' s (advance (s.storedLine set w off n v)) := by
  have hnew : dGet (lineStored s.mem set w off n (v.setWidth 256)) set w
      = { dGet s.mem set w with cs := 3, data := putBytes (dGet s.mem set w).data off n (v.setWidth 256) } :=
    (dGet_dSet _ _ hw hw).trans (if_pos ⟨rfl, rfl⟩)
  unfold OnlyLine
  rw [advance_mem, storedLine_mem, hnew]
  refine ⟨rfl, rfl, rfl, fun k hk => ?_, fun j _ hj => byte_putBytes_other _ hj, fun q u hu hne => ?_,
    ⟨rfl, rfl, rfl⟩, rfl⟩
  · rw [← hv k hk, ← byte_setWidth v (v := 256) (by omega)]
    exact byte_putBytes_same _ hk (by omega)
  · exact (dGet_dSet _ _ hu hw).trans (if_neg fun h => hne (by rw [h.1, h.2]))

end

end Sys2Proof.Machine
end

section
/-! SUPPORT. A floating register of 32 bits written (10_state.md R114). -/

namespace Sys2Proof.Machine

theorem lo32_append (x y : BitVec 32) : lo32 (x ++ y) = y := BitVec.extractLsb'_append_eq_right

theorem hi32_append (x y : BitVec 32) : hi32 (x ++ y) = x := BitVec.extractLsb'_append_eq_left

theorem evenOf_even {r : Reg} (h : r.getLsbD 0 = false) : evenOf r = r := by
  revert r
  decide

theorem evenOf_odd_inj {q r : Reg} (hq : q.getLsbD 0 = true) (hr : r.getLsbD 0 = true) (h : evenOf q = evenOf r) :
    q = r := by
  revert q r
  decide

section
variable (s : State) (r : Reg) (v : BitVec 32)

theorem setFprS_full (h : s.fr = true) : s.setFprS r v = s.setFprAt r (draw 32 .fprUpper s.tick r.toNat ++ v) := by
  simp [State.setFprS, h]

theorem setFprS_odd (h : s.fr = false) (hr : r.getLsbD 0 = true) :
    s.setFprS r v = s.setFprAt (evenOf r) (v ++ lo32 (s.fprAt (evenOf r))) := by
  simp [State.setFprS, h, hr]

theorem setFprS_even (h : s.fr = false) (hr : r.getLsbD 0 = false) :
    s.setFprS r v = s.setFprAt r (hi32 (s.fprAt r) ++ v) := by
  simp only [State.setFprS, h, hr, Bool.false_eq_true, if_false]

theorem fprS_lo (h : s.fr = true ∨ r.getLsbD 0 = false) : s.fprS r = lo32 (s.fprAt r) := by
  obtain h | h := h <;> simp only [State.fprS, h, Bool.not_false, Bool.or_true, Bool.true_or, if_true]

theorem fprS_hi (h : s.fr = false) (hr : r.getLsbD 0 = true) : s.fprS r = hi32 (s.fprAt (evenOf r)) := by
  simp [State.fprS, h, hr]

/-- A 32-bit register reads back what was written. -/
theorem fprS_setFprS : (s.setFprS r v).fprS r = v := by
  cases hf : s.fr with
  | true =>
    rw [setFprS_full s r v hf, fprS_lo (s.setFprAt _ _) _ (.inl hf), fprAt_setFprAt, if_pos rfl, lo32_append]
  | false =>
    cases hr : r.getLsbD 0 with
    | true => rw [setFprS_odd s r v hf hr, fprS_hi (s.setFprAt _ _) _ hf hr, fprAt_setFprAt, if_pos rfl, hi32_append]
    | false => rw [setFprS_even s r v hf hr, fprS_lo _ _ (.inr hr), fprAt_setFprAt, if_pos rfl, lo32_append]

/-- With FR = 0 a write leaves every other half. -/
theorem fprS_setFprS_other (hf : s.fr = false) {q : Reg} (hq : q ≠ r) : (s.setFprS r v).fprS q = s.fprS q := by
  cases hr : r.getLsbD 0 with
  | true =>
    rw [setFprS_odd s r v hf hr]
    cases hq0 : q.getLsbD 0 with
    | true =>
      rw [fprS_hi (s.setFprAt _ _) _ hf hq0, fprS_hi s _ hf hq0, fprAt_setFprAt,
        if_neg fun h => hq (evenOf_odd_inj hq0 hr h)]
    | false =>
      rw [fprS_lo _ _ (.inr hq0), fprS_lo _ _ (.inr hq0), fprAt_setFprAt]
      split
      next h => rw [lo32_append, h]
      next => rfl
  | false =>
    rw [setFprS_even s r v hf hr]
    cases hq0 : q.getLsbD 0 with
    | true =>
      rw [fprS_hi (s.setFprAt _ _) _ hf hq0, fprS_hi s _ hf hq0, fprAt_setFprAt]
      split
      next h => rw [hi32_append, h]
      next => rfl
    | false => rw [fprS_lo _ _ (.inr hq0), fprS_lo _ _ (.inr hq0), fprAt_setFprAt, if_neg hq]

theorem otherFprsStay_setFprS : OtherFprsStay r s (s.setFprS r v) := by
  unfold OtherFprsStay
  split
  next hf =>
    intro q hq
    rw [setFprS_full s r v hf, fprAt_setFprAt, if_neg hq]
  next hf =>
    have hf : s.fr = false := Bool.eq_false_iff.2 hf
    refine ⟨fun q hq => fprS_setFprS_other s r v hf hq, fun q hq => ?_⟩
    cases hr : r.getLsbD 0 with
    | true => rw [setFprS_odd s r v hf hr, fprAt_setFprAt, if_neg hq]
    | false =>
      rw [evenOf_even hr] at hq
      rw [setFprS_even s r v hf hr, fprAt_setFprAt, if_neg hq]

/-- A meaning that writes a 32-bit floating register and leaves FCR31. -/
theorem onlyFprS_advance : OnlyFprS r v s.fcr31 s (advance (s.setFprS r v)) := by
  refine ⟨movesOn_advance _ _ (by simp) (by simp), fprS_setFprS s r v, otherFprsStay_setFprS s r v, by simp, ?_⟩
  unfold State.setFprS
  split
  · rfl
  · split <;> rfl

end

end Sys2Proof.Machine
end

section
/-! SUPPORT. O41: the loads and stores of the instruction set when they hit the data cache, and a store that is
gathered (20_memory.md R292, R297). -/

namespace Sys2Proof.Machine

/-! The shared operations on a hit. -/

section
variable {s : State} {base rt : Reg} {offset : Imm16} {n w : Nat} {va start : Word}

theorem lineOffset_self (va : Word) : va.toNat % 32 / 8 * 8 + va.toNat % 8 = va.toNat % 32 := by omega

/-- A natural access does not leave its line (20_memory.md R256). -/
theorem fits_line (hn : n ∈ [1, 2, 4, 8]) (ha : alignedTo n va = true) : va.toNat % 32 + n ≤ 32 := by
  simp only [alignedTo, beq_iff_eq] at ha
  simp only [List.mem_cons, List.not_mem_nil, or_false] at hn
  obtain rfl | rfl | rfl | rfl := hn <;> omega

theorem loadReg_hit {ext : BitVec 256 → Word} (hr : rt ≠ 0) (hn : n ≤ 32)
    (h : CacheHit s false (alignedTo n (s.ea base offset)) (s.ea base offset) w) :
    loadReg base rt offset n ext s = writeNext rt (ext (BitVec.ofNat 256
      (lineNat (dGet s.mem (l1Set (s.ea base offset)) w).data ((s.ea base offset).toNat % 32) n))) s := by
  unfold loadReg
  rw [if_neg hr, memRead_hit h, lineOffset_self, getBytes_eq_ofNat _ _ hn]
  rfl

theorem loadPart_hit {into : Word → BitVec 256 → Word} (hr : rt ≠ 0) (h : CacheHit s false true va w) :
    loadPart rt va start n into s = writeNext rt (into (s.reg rt)
      (getBytes (dGet s.mem (l1Set va) w).data (va.toNat % 32 / 8 * 8 + start.toNat % 8) n)) s := by
  unfold loadPart
  rw [if_neg hr, memRead_hit h]
  rfl

theorem storeMem_hit (v : Word) (h : CacheHit s true (alignedTo n (s.ea base offset)) (s.ea base offset) w) :
    storeMem base offset n v s = .next (advance
      (s.storedLine (l1Set (s.ea base offset)) w ((s.ea base offset).toNat % 32) n v)) := by
  unfold storeMem
  dsimp only
  rw [memWrite_hit h, lineOffset_self]
  rfl

theorem storePart_hit (v : Word) (h : CacheHit s true true va w) :
    storePart va start n v s = .next (advance
      (s.storedLine (l1Set va) w (va.toNat % 32 / 8 * 8 + start.toNat % 8) n v)) := by
  unfold storePart
  rw [memWrite_hit h]
  rfl

/-- A natural store that hits. -/
theorem does_storeMem_hit {i : Instr} {v : Word} (hi : exec i s = storeMem base offset n v s)
    (hn : n ∈ [1, 2, 4, 8]) (h : CacheHit s true (alignedTo n (s.ea base offset)) (s.ea base offset) w) :
    Does i s (OnlyLine (l1Set (s.ea base offset)) w ((s.ea base offset).toNat % 32) n v) :=
  ⟨_, hi.trans (storeMem_hit v h), onlyLine_lineStored h.lt (fits_line hn h.aligned) fun _ _ => rfl⟩

/-- An unaligned store that hits: its bytes from byte `off` of the line. -/
theorem does_storePart_hit {i : Instr} {off : Nat} {v v' : Word} (hi : exec i s = storePart va start n v s)
    (hoff : va.toNat % 32 / 8 * 8 + start.toNat % 8 = off) (hfit : off + n ≤ 32)
    (hv : ∀ k, k < n → v.extractLsb' (8 * k) 8 = v'.extractLsb' (8 * k) 8) (h : CacheHit s true true va w) :
    Does i s (OnlyLine (l1Set va) w off n v') := by
  refine ⟨_, hi.trans (storePart_hit v h), ?_⟩
  rw [hoff]
  exact onlyLine_lineStored h.lt hfit hv

/-- A natural load that hits. -/
theorem does_loadReg_hit {i : Instr} {ext : BitVec 256 → Word} {v : Word}
    (hi : exec i s = loadReg base rt offset n ext s) (hr : rt ≠ 0) (hn : n ≤ 32)
    (hv : ext (BitVec.ofNat 256 (lineNat (dGet s.mem (l1Set (s.ea base offset)) w).data
      ((s.ea base offset).toNat % 32) n)) = v)
    (h : CacheHit s false (alignedTo n (s.ea base offset)) (s.ea base offset) w) : Does i s (OnlyGpr rt v) :=
  does_writeNext (hi.trans (loadReg_hit hr hn h)) hv

/-- The result of an unaligned load of an `n`-byte register, byte by byte (40_load_store.md R411). -/
def PartlyLoaded (rt : Reg) (n : Nat) (byte : Nat → Byte) (s t : State) : Prop :=
  ∃ v, OnlyGpr rt v s t ∧ (n = 4 → IsWord v) ∧ ∀ k, k < n → v.extractLsb' (8 * k) 8 = byte k

/-- An unaligned load that hits. -/
theorem does_loadPart_hit {i : Instr} {into : Word → BitVec 256 → Word} {off m : Nat} {byte : Nat → Byte}
    (hi : exec i s = loadPart rt va start n into s) (hr : rt ≠ 0)
    (hoff : va.toNat % 32 / 8 * 8 + start.toNat % 8 = off) (hw : m = 4 → ∀ old d, IsWord (into old d))
    (hb : ∀ k, k < m → (into (s.reg rt) (getBytes (dGet s.mem (l1Set va) w).data off n)).extractLsb' (8 * k) 8
      = byte k)
    (h : CacheHit s false true va w) : Does i s (PartlyLoaded rt m byte) := by
  refine ⟨_, hi.trans (loadPart_hit hr h), _, onlyGpr_setReg s rt _, fun hm => hw hm _ _, ?_⟩
  rw [hoff]
  exact hb

/-! LL and SC (40_load_store.md R429, R431). -/

/-- What a linked load leaves: the link at the translated address, and the register. -/
def Linked (rt : Reg) (aligned : Bool) (va v : Word) (s t : State) : Prop :=
  t.llBit = true ∧ translateData s false aligned va = .ok t.llAddr 3
    ∧ OnlyGpr rt v s { t with llBit := s.llBit, llAddr := s.llAddr }

theorem onlyGpr_linked (v : Word) (b : Bool) (a : PAddr) :
    OnlyGpr rt v s { advance (({ s with llBit := b, llAddr := a } : State).setReg rt v) with
      llBit := s.llBit, llAddr := s.llAddr } := by
  have h : ({ advance (({ s with llBit := b, llAddr := a } : State).setReg rt v) with
      llBit := s.llBit, llAddr := s.llAddr } : State) = advance (s.setReg rt v) := by
    unfold State.setReg
    split <;> rfl
  rw [h]
  exact onlyGpr_setReg s rt v

theorem does_loadLinked_hit {i : Instr} {ext : BitVec 256 → Word} {v : Word}
    (hi : exec i s = loadLinked base rt offset n ext s) (hn : n ≤ 32)
    (hv : ext (BitVec.ofNat 256 (lineNat (dGet s.mem (l1Set (s.ea base offset)) w).data
      ((s.ea base offset).toNat % 32) n)) = v)
    (h : CacheHit s false (alignedTo n (s.ea base offset)) (s.ea base offset) w) :
    Does i s (Linked rt (alignedTo n (s.ea base offset)) (s.ea base offset) v) := by
  obtain ⟨pa, ht, -⟩ := h.ensureD
  have he : exec i s = writeNext rt v { s with llBit := true, llAddr := pa } := by
    rw [hi, loadLinked, ht]
    dsimp only
    rw [readAttr_hit h ht, getBytes_eq_ofNat _ _ hn, ← hv]
    rfl
  exact ⟨_, he, by simp, by simpa using ht, onlyGpr_linked v true pa⟩

/-- What a conditional store under the link leaves: 1 in the register, LLbit clear, the line stored to. -/
def StoredLinked (rt : Reg) (set w off n : Nat) (s t : State) : Prop :=
  t.llBit = false ∧ t.reg rt = (if rt = 0 then 0 else 1) ∧ (∀ q, q ≠ rt → t.reg q = s.reg q)
    ∧ OnlyLine set w off n (s.reg rt) s { t with llBit := s.llBit, gpr := s.gpr }

theorem does_storeConditional_hit {i : Instr} (hi : exec i s = storeConditional base rt offset n s)
    (hn : n ∈ [1, 2, 4, 8]) (h : CacheHit s true (alignedTo n (s.ea base offset)) (s.ea base offset) w)
    (hl : s.llBit = true)
    (ht : translateData s true (alignedTo n (s.ea base offset)) (s.ea base offset) = .ok s.llAddr 3) :
    Does i s (StoredLinked rt (l1Set (s.ea base offset)) w ((s.ea base offset).toNat % 32) n) := by
  have hstored := onlyLine_lineStored (s := s) (set := l1Set (s.ea base offset)) (v := s.reg rt)
    h.lt (fits_line hn h.aligned) fun _ _ => rfl
  generalize hu : s.storedLine (l1Set (s.ea base offset)) w ((s.ea base offset).toNat % 32) n (s.reg rt) = u
    at hstored
  obtain ⟨htr, hwatch⟩ := translateData_ok ht
  have he : exec i s = writeNext rt 1 { u with llBit := false } := by
    rw [if_pos rfl] at htr
    rw [hi, storeConditional, htr]
    dsimp only
    rw [if_pos (by simp [hl]), if_neg (by simp [hwatch]), writeAttr_hit h ht, ← hu]
    rfl
  have hreg : ∀ q, u.reg q = s.reg q := fun q => by rw [← hu]; rfl
  refine ⟨_, he, by simp, ?_, fun q hq => ?_, ?_⟩
  · rw [reg_advance, reg_setReg]
    by_cases hr : rt = 0
    · subst hr
      rfl
    · rw [if_pos ⟨rfl, hr⟩, if_neg hr]
  · rw [reg_advance, reg_setReg, if_neg fun h => hq h.1]
    exact hreg q
  · have hsame : ({ advance (({ u with llBit := false } : State).setReg rt 1) with
        llBit := s.llBit, gpr := s.gpr } : State) = advance u := by
      rw [← hu]
      unfold State.setReg
      split <;> rfl
    rw [hsame]
    exact hstored

end

end Sys2Proof.Machine
end

section
/-! SUPPORT. An uncached-accelerated store that enters the gather buffer (20_memory.md R297). -/

namespace Sys2Proof.Machine

/-- The gather buffer with bytes added. -/
def gatherAdd (g : GatherBuf) (off n : Nat) (v : BitVec 256) : GatherBuf :=
  { g with data := putBytes g.data off n v, held := g.held ||| BitVec.ofNat 32 ((2 ^ n - 1) <<< off) }

theorem getLsbD_gatherAdd_held (g : GatherBuf) (off n : Nat) (v : BitVec 256) (i : Nat) :
    (gatherAdd g off n v).held.getLsbD i
      = (g.held.getLsbD i || (decide (i < 32) && (decide (off ≤ i) && decide (i < off + n)))) := by
  simp only [gatherAdd, BitVec.getLsbD_or, BitVec.getLsbD_ofNat, Nat.testBit_shiftLeft, Nat.testBit_two_pow_sub_one]
  grind

/-- The buffer a store to `line` adds to: the one in use, or an empty one. -/
def MemSys.gatherFor (m : MemSys) (line : BitVec 35) : GatherBuf :=
  m.gather.getD { line := line, data := 0, held := 0 }

theorem line_gatherFor {m : MemSys} {line : BitVec 35} (h : ∀ g, m.gather = some g → g.line = line) :
    (m.gatherFor line).line = line := by
  unfold MemSys.gatherFor
  cases hg : m.gather with
  | none => rfl
  | some g => exact h g hg

/-- A byte outside the store that is not held before keeps the buffer from being full. -/
theorem gatherAdd_notFull {g : GatherBuf} {off n j : Nat} (v : BitVec 256) (hj : j < 32)
    (ho : j < off ∨ off + n ≤ j) (hg : g.held.getLsbD j = false) : (gatherAdd g off n v).held ≠ 0xFFFFFFFF := by
  intro hfull
  have hones : (0xFFFFFFFF : BitVec 32) = BitVec.allOnes 32 := rfl
  have hbit := getLsbD_gatherAdd_held g off n v j
  rw [hfull, hones, BitVec.getLsbD_allOnes, hg] at hbit
  grind

/-- A store to the line in use, or with the buffer empty, that does not fill it. -/
theorem gatherStore_notFull (x : MemCtx) {pa : PAddr} {n : Nat} {v : BitVec 256} {m : MemSys}
    (hl : ∀ g, m.gather = some g → g.line = pa.extractLsb' 5 35)
    (hf : (gatherAdd (m.gatherFor (pa.extractLsb' 5 35)) (lineOff pa) n v).held ≠ 0xFFFFFFFF) :
    gatherStore x pa n v m
      = .ok () { m with gather := some (gatherAdd (m.gatherFor (pa.extractLsb' 5 35)) (lineOff pa) n v) } := by
  unfold gatherStore
  unfold MemSys.gatherFor at hf ⊢
  cases hg : m.gather with
  | none =>
    rw [hg] at hf
    exact if_neg hf
  | some g =>
    rw [hg] at hf
    dsimp only
    rw [if_pos (hl g hg)]
    exact if_neg hf

/-- A gathered store, in the terms claims are stated in. -/
theorem onlyGather_gatherAdd {s : State} {line : BitVec 35} {off n : Nat} {v : Word}
    (hl : ∀ g, s.mem.gather = some g → g.line = line) (hoff : off + n ≤ 32) :
    OnlyGather line off n v s (advance { s with mem :=
      { s.mem with gather := some (gatherAdd (s.mem.gatherFor line) off n (v.setWidth 256)) } }) := by
  refine ⟨_, rfl, line_gatherFor hl, fun k hk => ⟨?_, ?_⟩, fun j hj ho => ⟨?_, byte_putBytes_other _ ho⟩,
    ⟨rfl, rfl, rfl⟩, rfl⟩
  · rw [getLsbD_gatherAdd_held]
    grind
  · rw [← byte_setWidth v (v := 256) (by omega)]
    exact byte_putBytes_same _ hk (by omega)
  · rw [getLsbD_gatherAdd_held]
    unfold MemSys.gatherFor
    grind

/-- A natural uncached-accelerated store that does not fill the buffer. -/
theorem does_storeMem_gather {s : State} {base : Reg} {offset : Imm16} {n j : Nat} {i : Instr} {v : Word}
    {pa : PAddr} (hi : exec i s = storeMem base offset n v s) (hn : n ∈ [1, 2, 4, 8])
    (ht : translateData s true (alignedTo n (s.ea base offset)) (s.ea base offset) = .ok pa 7)
    (hl : ∀ g, s.mem.gather = some g → g.line = pa.extractLsb' 5 35) (hj : j < 32)
    (ho : j < (s.ea base offset).toNat % 32 ∨ (s.ea base offset).toNat % 32 + n ≤ j)
    (hfree : ∀ g, s.mem.gather = some g → g.held.getLsbD j = false) :
    Does i s (OnlyGather (pa.extractLsb' 5 35) ((s.ea base offset).toNat % 32) n v) := by
  have hoff : lineOff pa = (s.ea base offset).toNat % 32 := by
    rw [← lineOffset_self, ← lineOff_access ht, translateData_same ht]
  have hheld : (s.mem.gatherFor (pa.extractLsb' 5 35)).held.getLsbD j = false := by
    unfold MemSys.gatherFor
    cases hg : s.mem.gather with
    | none => simp
    | some g => exact hfree g hg
  have hfull := gatherAdd_notFull (n := n) (v.setWidth 256) hj ho hheld
  rw [← hoff] at hfull
  have hwrite : memWrite s (alignedTo n (s.ea base offset)) (s.ea base offset) (s.ea base offset) n
      (v.setWidth 256) = .ok () { s.mem with gather := some (gatherAdd (s.mem.gatherFor (pa.extractLsb' 5 35))
        ((s.ea base offset).toNat % 32) n (v.setWidth 256)) } := by
    rw [← hoff]
    simpa [memWrite, ht, writeAttr, translateData_same ht] using gatherStore_notFull s.ctx hl hfull
  refine ⟨_, ?_, onlyGather_gatherAdd hl (fits_line hn (translateData_aligned ht))⟩
  rw [hi]
  unfold storeMem
  dsimp only
  rw [hwrite]
  rfl

end Sys2Proof.Machine
end

section
/-! SUPPORT. O41, form by form. -/

namespace Sys2Proof.Machine

section
variable {s : State} {base rt : Reg} {offset : Imm16} {w : Nat}

/-- A number read and sign-extended. -/
theorem signExtend_ofNat_256 {k : Nat} (hk : k ≤ 256) (x : Nat) :
    ((BitVec.ofNat 256 x).setWidth k).signExtend 64 = BitVec.ofInt 64 (BitVec.ofNat k x).toInt := by
  rw [BitVec.setWidth_ofNat_of_le hk]
  rfl

/-- The line of the access as the claims name it: set, offset and the number its bytes make. -/
def State.lineNum (s : State) (va : Word) (w n : Nat) : Nat :=
  lineNat (dGet s.mem (va.extractLsb' 5 9).toNat w).data (va.toNat % 32) n

/-- The integer loads (40_load_store.md R404 to R410). -/
theorem integerLoads_hit (hr : rt ≠ 0) :
    let va := s.ea base offset
    let hit := fun n : Nat => CacheHit s false (alignedTo n va) va w
    let num := s.lineNum va w
    (hit 1 → Does (.lb base rt offset) s (OnlyGpr rt (BitVec.ofInt 64 (BitVec.ofNat 8 (num 1)).toInt)))
      ∧ (hit 1 → Does (.lbu base rt offset) s (OnlyGpr rt (BitVec.ofNat 64 (num 1))))
      ∧ (hit 2 → Does (.lh base rt offset) s (OnlyGpr rt (BitVec.ofInt 64 (BitVec.ofNat 16 (num 2)).toInt)))
      ∧ (hit 2 → Does (.lhu base rt offset) s (OnlyGpr rt (BitVec.ofNat 64 (num 2))))
      ∧ (hit 4 → Does (.lw base rt offset) s (OnlyGpr rt (BitVec.ofInt 64 (BitVec.ofNat 32 (num 4)).toInt)))
      ∧ (hit 4 → Does (.lwu base rt offset) s (OnlyGpr rt (BitVec.ofNat 64 (num 4))))
      ∧ (hit 8 → Does (.ld base rt offset) s (OnlyGpr rt (BitVec.ofNat 64 (num 8)))) :=
  ⟨does_loadReg_hit rfl hr (by decide) (signExtend_ofNat_256 (by decide) _),
    does_loadReg_hit rfl hr (by decide) (BitVec.setWidth_ofNat_of_le (by decide) _),
    does_loadReg_hit rfl hr (by decide) (signExtend_ofNat_256 (by decide) _),
    does_loadReg_hit rfl hr (by decide) (BitVec.setWidth_ofNat_of_le (by decide) _),
    does_loadReg_hit rfl hr (by decide) (signExtend_ofNat_256 (by decide) _),
    does_loadReg_hit rfl hr (by decide) (BitVec.setWidth_ofNat_of_le (by decide) _),
    does_loadReg_hit rfl hr (by decide) (BitVec.setWidth_ofNat_of_le (by decide) _)⟩

/-- SB, SH, SW and SD are the natural stores of 1, 2, 4 and 8 bytes (R420 to R423). -/
theorem stores_eq_storeMem {p : Instr × Nat}
    (hp : p ∈ [(Instr.sb base rt offset, 1), (.sh base rt offset, 2), (.sw base rt offset, 4),
      (.sd base rt offset, 8)]) :
    exec p.1 s = storeMem base offset p.2 (s.reg rt) s ∧ p.2 ∈ [1, 2, 4, 8] := by
  simp only [List.mem_cons, List.not_mem_nil, or_false] at hp
  obtain rfl | rfl | rfl | rfl := hp <;> exact ⟨rfl, by simp⟩

/-! The unaligned forms: where they start in the line. -/

theorem wordByte_eq (s : State) (base : Reg) (offset : Imm16) :
    s.wordByte base offset = (s.ea base offset).toNat % 4 := by simp [State.wordByte]

theorem doubleByte_eq (s : State) (base : Reg) (offset : Imm16) :
    s.doubleByte base offset = (s.ea base offset).toNat % 8 := by simp [State.doubleByte]

theorem toNat_mod_8 (x : Word) : x.toNat % 8 = (x.extractLsb' 0 3).toNat := by simp

/-- The first byte of the word, in its doubleword. -/
theorem wordStart_mod (va : Word) : (va &&& ~~~3).toNat % 8 = va.toNat % 8 - va.toNat % 4 := by
  have hx : ∀ x : BitVec 3, (x &&& 4).toNat = x.toNat - x.toNat % 4 := by decide
  have h4 : (~~~3 : Word).extractLsb' 0 3 = 4 := by decide
  have h := hx (va.extractLsb' 0 3)
  rw [toNat_mod_8, BitVec.extractLsb'_and, h4, h, ← toNat_mod_8]
  omega

/-- The first byte of the doubleword. -/
theorem doubleStart_mod (va : Word) : (va &&& ~~~7).toNat % 8 = 0 := by
  have h0 : (~~~7 : Word).extractLsb' 0 3 = 0 := by decide
  rw [toNat_mod_8, BitVec.extractLsb'_and, h0]
  simp

theorem lineOffset_word (va : Word) :
    va.toNat % 32 / 8 * 8 + (va &&& ~~~3).toNat % 8 = va.toNat % 32 - va.toNat % 4 := by
  rw [wordStart_mod]
  omega

theorem lineOffset_double (va : Word) :
    va.toNat % 32 / 8 * 8 + (va &&& ~~~7).toNat % 8 = va.toNat % 32 - va.toNat % 8 := by
  rw [doubleStart_mod]
  omega

/-- LWL, LWR, LDL and LDR (R412 to R415). -/
theorem unalignedLoads_hit (hr : rt ≠ 0) (h : CacheHit s false true (s.ea base offset) w) :
    let va := s.ea base offset
    let byte := fun j : Nat => (dGet s.mem (va.extractLsb' 5 9).toNat w).data.extractLsb' (8 * j) 8
    let old := fun k : Nat => (s.reg rt).extractLsb' (8 * k) 8
    let off := va.toNat % 32
    let b := va.toNat % 4
    let d := va.toNat % 8
    Does (.lwl base rt offset) s
        (PartlyLoaded rt 4 fun k => if 3 - b ≤ k then byte (off - b + (k - (3 - b))) else old k)
      ∧ Does (.lwr base rt offset) s (PartlyLoaded rt 4 fun k => if k + b ≤ 3 then byte (off + k) else old k)
      ∧ Does (.ldl base rt offset) s
        (PartlyLoaded rt 8 fun k => if 7 - d ≤ k then byte (off - d + (k - (7 - d))) else old k)
      ∧ Does (.ldr base rt offset) s (PartlyLoaded rt 8 fun k => if k + d ≤ 7 then byte (off + k) else old k) := by
  intro va byte old off b d
  have hb : b < 4 := Nat.mod_lt _ (by decide)
  have hd : d < 8 := Nat.mod_lt _ (by decide)
  have hlwl := exec_lwl s base rt offset
  have hlwr := exec_lwr s base rt offset
  have hldl := exec_ldl s base rt offset
  have hldr := exec_ldr s base rt offset
  rw [wordByte_eq] at hlwl hlwr
  rw [doubleByte_eq] at hldl hldr
  refine ⟨?_, ?_, ?_, ?_⟩
  · exact does_loadPart_hit hlwl hr (lineOffset_word _) (fun _ _ _ => isWord_sext32 _)
      (fun k hk => byte_intoLwl _ _ hb _ hk) h
  · exact does_loadPart_hit hlwr hr (lineOffset_self _) (fun _ _ _ => isWord_sext32 _)
      (fun k hk => byte_intoLwr _ _ _ hk) h
  · exact does_loadPart_hit hldl hr (lineOffset_double _) nofun (fun k hk => byte_intoLdl _ _ hd _ hk) h
  · exact does_loadPart_hit hldr hr (lineOffset_self _) nofun (fun k hk => byte_intoLdr _ _ _ hk) h

/-- The bytes SWL stores are those of the whole register shifted (R416). -/
theorem byte_swl (x : Word) {b k : Nat} (hb : b < 4) (hk : k < b + 1) :
    ((lo32 x >>> (8 * (3 - b))).setWidth 64).extractLsb' (8 * k) 8
      = (x >>> (8 * (3 - b))).extractLsb' (8 * k) 8 := by
  refine byte_ext fun i hi => ?_
  simp only [BitVec.getLsbD_setWidth, BitVec.getLsbD_ushiftRight, BitVec.getLsbD_extractLsb', Nat.zero_add,
    decide_eq_true (show 8 * k + i < 64 by omega), decide_eq_true (show 8 * (3 - b) + (8 * k + i) < 32 by omega),
    Bool.true_and]

/-- SWL, SWR, SDL and SDR (R416 to R419). -/
theorem unalignedStores_hit (h : CacheHit s true true (s.ea base offset) w) :
    let va := s.ea base offset
    let set := (va.extractLsb' 5 9).toNat
    let off := va.toNat % 32
    let b := va.toNat % 4
    let d := va.toNat % 8
    Does (.swl base rt offset) s (OnlyLine set w (off - b) (b + 1) (s.reg rt >>> (8 * (3 - b))))
      ∧ Does (.swr base rt offset) s (OnlyLine set w off (4 - b) (s.reg rt))
      ∧ Does (.sdl base rt offset) s (OnlyLine set w (off - d) (d + 1) (s.reg rt >>> (8 * (7 - d))))
      ∧ Does (.sdr base rt offset) s (OnlyLine set w off (8 - d) (s.reg rt)) := by
  intro va set off b d
  have hb : b < 4 := Nat.mod_lt _ (by decide)
  have hswl := exec_swl s base rt offset
  have hswr := exec_swr s base rt offset
  have hsdl := exec_sdl s base rt offset
  have hsdr := exec_sdr s base rt offset
  rw [wordByte_eq] at hswl hswr
  rw [doubleByte_eq] at hsdl hsdr
  refine ⟨?_, ?_, ?_, ?_⟩
  · exact does_storePart_hit hswl (lineOffset_word _) (by omega) (fun k hk => byte_swl _ hb hk) h
  · exact does_storePart_hit hswr (lineOffset_self _) (by omega) (fun _ _ => rfl) h
  · exact does_storePart_hit hsdl (lineOffset_double _) (by omega) (fun _ _ => rfl) h
  · exact does_storePart_hit hsdr (lineOffset_self _) (by omega) (fun _ _ => rfl) h

/-! The floating forms (R424 to R427). -/

theorem lwc1_hit (hu : s.cu 1 = true) (h : CacheHit s false (alignedTo 4 (s.ea base offset)) (s.ea base offset) w) :
    Does (.lwc1 base rt offset) s
      (OnlyFprS rt (BitVec.ofNat 32 (s.lineNum (s.ea base offset) w 4)) s.fcr31) := by
  have he : exec (.lwc1 base rt offset) s
      = .next (advance (s.setFprS rt (BitVec.ofNat 32 (s.lineNum (s.ea base offset) w 4)))) := by
    change execLwc1 base rt offset s = _
    unfold execLwc1
    rw [withCp1_usable hu, memRead_hit h, lineOffset_self, getBytes_eq_ofNat _ _ (by decide),
      ← BitVec.setWidth_ofNat_of_le (v := 32) (w := 256) (by decide)]
    rfl
  exact ⟨_, he, onlyFprS_advance s rt _⟩

theorem ldc1_hit (hu : s.cu 1 = true) (hd : s.doubleOk rt = true)
    (h : CacheHit s false (alignedTo 8 (s.ea base offset)) (s.ea base offset) w) :
    Does (.ldc1 base rt offset) s
      (OnlyFprD rt (BitVec.ofNat 64 (s.lineNum (s.ea base offset) w 8)) s.fcr31) := by
  have he : exec (.ldc1 base rt offset) s
      = .next (advance (s.setFprAt rt (BitVec.ofNat 64 (s.lineNum (s.ea base offset) w 8)))) := by
    change execLdc1 base rt offset s = _
    unfold execLdc1
    rw [withCp1_usable hu, withDouble_one hd, memRead_hit h, lineOffset_self, getBytes_eq_ofNat _ _ (by decide),
      ← BitVec.setWidth_ofNat_of_le (v := 64) (w := 256) (by decide)]
    rfl
  exact ⟨_, he, onlyFprD_advance s rt _ s.fcr31⟩

theorem swc1_hit (hu : s.cu 1 = true) (h : CacheHit s true (alignedTo 4 (s.ea base offset)) (s.ea base offset) w) :
    Does (.swc1 base rt offset) s (OnlyLine (l1Set (s.ea base offset)) w ((s.ea base offset).toNat % 32) 4
      ((s.fprS rt).setWidth 64)) :=
  does_storeMem_hit (withCp1_usable hu) (by decide) h

theorem sdc1_hit (hu : s.cu 1 = true) (hd : s.doubleOk rt = true)
    (h : CacheHit s true (alignedTo 8 (s.ea base offset)) (s.ea base offset) w) :
    Does (.sdc1 base rt offset) s (OnlyLine (l1Set (s.ea base offset)) w ((s.ea base offset).toNat % 32) 8
      (s.fprAt rt)) :=
  does_storeMem_hit ((withCp1_usable hu).trans (withDouble_one hd)) (by decide) h

end

/-- Settles O41: form by form, the shared operation on a hit or on the gather buffer. -/
theorem cachedAccesses : Obligations.CachedAccesses := by
  intro s base rt offset
  refine ⟨fun w hr => integerLoads_hit hr, fun w p hp h => ?_, fun w => ?_, fun p hp pa ht hl hfree => ?_⟩
  · obtain ⟨hi, hn⟩ := stores_eq_storeMem (s := s) hp
    exact does_storeMem_hit hi hn h
  · exact ⟨unalignedLoads_hit, unalignedStores_hit,
      fun h => ⟨does_loadLinked_hit rfl (by decide) (signExtend_ofNat_256 (by decide) _) h, fun hu => lwc1_hit hu h⟩,
      fun h => ⟨does_loadLinked_hit rfl (by decide) (BitVec.setWidth_ofNat_of_le (by decide) _) h,
        fun hu hd => ldc1_hit hu hd h⟩,
      fun h => ⟨does_storeConditional_hit rfl (by decide) h, fun hu => swc1_hit hu h⟩,
      fun h => ⟨does_storeConditional_hit rfl (by decide) h, fun hu hd => sdc1_hit hu hd h⟩⟩
  · obtain ⟨hi, hn⟩ := stores_eq_storeMem (s := s) hp
    obtain ⟨j, hj, ho, hheld⟩ := hfree
    exact does_storeMem_gather hi hn ht hl hj ho hheld

end Sys2Proof.Machine
end

section
/-! SUPPORT. O1: the fields of an instruction's word lead the decoder back to its row. -/

namespace Sys2Proof

/-! Which map a word is looked up in (30_encoding.md R360, R363 to R366). -/

section
variable {w : BitVec 32}

theorem decode_special (hop : fOp w = 0) : decode w = decodeSpecial w := by unfold decode; rw [hop]; rfl
theorem decode_regimm (hop : fOp w = 1) : decode w = decodeRegimm w := by unfold decode; rw [hop]; rfl
theorem decode_cop0 (hop : fOp w = 16) : decode w = decodeCop0 w := by unfold decode; rw [hop]; rfl
theorem decode_cop1 (hop : fOp w = 17) : decode w = decodeCop1 w := by unfold decode; rw [hop]; rfl
theorem decode_special2 (hop : fOp w = 28) : decode w = decodeSpecial2 w := by unfold decode; rw [hop]; rfl

theorem decode_co (hop : fOp w = 16) (hrs : fRs w = 16) : decode w = decodeCo w := by
  rw [decode_cop0 hop, decodeCop0, hrs]; rfl
theorem decode_bc1 (hop : fOp w = 17) (hrs : fRs w = 8) : decode w = decodeBc1 w := by
  rw [decode_cop1 hop, decodeCop1, hrs]; rfl
theorem decode_fmtS (hop : fOp w = 17) (hrs : fRs w = 16) : decode w = decodeFmtS w := by
  rw [decode_cop1 hop, decodeCop1, hrs]; rfl
theorem decode_fmtD (hop : fOp w = 17) (hrs : fRs w = 17) : decode w = decodeFmtD w := by
  rw [decode_cop1 hop, decodeCop1, hrs]; rfl
theorem decode_fmtW (hop : fOp w = 17) (hrs : fRs w = 20) : decode w = decodeFmtW w := by
  rw [decode_cop1 hop, decodeCop1, hrs]; rfl
theorem decode_fmtL (hop : fOp w = 17) (hrs : fRs w = 21) : decode w = decodeFmtL w := by
  rw [decode_cop1 hop, decodeCop1, hrs]; rfl
theorem decode_fmtPs (hop : fOp w = 17) (hrs : fRs w = 22) : decode w = decodeFmtPs w := by
  rw [decode_cop1 hop, decodeCop1, hrs]; rfl

end

/-- Row by row: the word of a row is looked up in the row's map, its fields read back as the operands, and the row
is the one its opcode, `rs`, `rt` or funct selects (30_encoding.md R360 to R367). -/
theorem decode_encode (i : Instr) : decode (encode i) = .ok i := by
  cases i with
  | lb | lbu | lh | lhu | lw | lwu | ld | lwl | lwr | ldl | ldr | swl | swr | sdl | sdr | sb | sh
  | sw | sd | ll | lld | sc | scd | lwc1 | ldc1 | swc1 | sdc1 | addi | daddi | addiu | daddiu | slti
  | sltiu | andi | ori | xori | lui | beq | bne | beql | bnel | blez | bgtz | blezl | bgtzl | cache =>
    change decode (encI _ _ _ _) = _
    rw [decode, fOp_encI, fRs_encI, fRt_encI, fImm_encI]; rfl
  | j | jal =>
    change decode (encJ _ _) = _
    rw [decode, fOp_encJ, fTarget_encJ]; rfl
  | sync | add | dadd | addu | daddu | sub | dsub | subu | dsubu | slt | sltu | and | or | xor | nor
  | movz | movn | mult | multu | dmult | dmultu | div | divu | ddiv | ddivu | mfhi | mthi | mflo
  | mtlo | jr | jalr | sll | srl | sra | dsll | dsrl | dsra | dsll32 | dsrl32 | dsra32 | sllv | srlv
  | srav | dsllv | dsrlv | dsrav =>
    change decode (encR 0 _ _ _ _ _) = _
    rw [decode_special (fOp_encR ..), decodeSpecial, fFn_encR, fRs_encR, fRt_encR, fRd_encR, fSa_encR]; rfl
  | syscall | brk =>
    change decode (encCode _ _) = _
    rw [decode_special (fOp_encCode ..), decodeSpecial, fFn_encCode, fCode20_encCode]; rfl
  | tge | tgeu | tlt | tltu | teq | tne =>
    change decode (encTrap _ _ _ _) = _
    rw [decode_special (fOp_encTrap ..), decodeSpecial, fFn_encTrap, fRs_encTrap, fRt_encTrap,
      fCode10_encTrap]; rfl
  | bltz | bgez | bltzal | bgezal | bltzl | bgezl | bltzall | bgezall | tgei | tgeiu | tlti | tltiu
  | teqi | tnei =>
    change decode (encI 1 _ _ _) = _
    rw [decode_regimm (fOp_encI ..), decodeRegimm, fRs_encI, fRt_encI, fImm_encI]; rfl
  | mfc0 | dmfc0 | mtc0 | dmtc0 =>
    change decode (encR 16 _ _ _ _ _) = _
    rw [decode_cop0 (fOp_encR ..), decodeCop0, fFn_encR, fRs_encR, fRt_encR, fRd_encR, fSa_encR]; rfl
  | tlbp | tlbr | tlbwi | tlbwr | eret =>
    change decode (encR 16 16 _ _ _ _) = _
    rw [decode_co (fOp_encR ..) (fRs_encR ..), decodeCo, fFn_encR, fRs_encR, fRt_encR, fRd_encR,
      fSa_encR]; rfl
  | mfc1 | dmfc1 | cfc1 | mtc1 | dmtc1 | ctc1 =>
    change decode (encR 17 _ _ _ _ _) = _
    rw [decode_cop1 (fOp_encR ..), decodeCop1, fFn_encR, fRs_encR, fRt_encR, fRd_encR, fSa_encR]; rfl
  | bc1f | bc1t | bc1fl | bc1tl =>
    change decode (encI 17 8 _ _) = _
    rw [decode_bc1 (fOp_encI ..) (fRs_encI ..), decodeBc1, fRt_encI, fImm_encI]; rfl
  | addS | subS | mulS | divS | sqrtS | absS | movS | negS | roundLS | truncLS | ceilLS | floorLS
  | roundWS | truncWS | ceilWS | floorWS | cvtWS | cvtLS | cvtDS | cFS | cUnS | cEqS | cUeqS | cOltS
  | cUltS | cOleS | cUleS | cSfS | cNgleS | cSeqS | cNglS | cLtS | cNgeS | cLeS | cNgtS =>
    change decode (encR 17 16 _ _ _ _) = _
    rw [decode_fmtS (fOp_encR ..) (fRs_encR ..), decodeFmtS, fFn_encR, fRt_encR, fRd_encR, fSa_encR]; rfl
  | addD | subD | mulD | divD | sqrtD | absD | movD | negD | roundLD | truncLD | ceilLD | floorLD
  | roundWD | truncWD | ceilWD | floorWD | cvtWD | cvtLD | cvtSD | cFD | cUnD | cEqD | cUeqD | cOltD
  | cUltD | cOleD | cUleD | cSfD | cNgleD | cSeqD | cNglD | cLtD | cNgeD | cLeD | cNgtD =>
    change decode (encR 17 17 _ _ _ _) = _
    rw [decode_fmtD (fOp_encR ..) (fRs_encR ..), decodeFmtD, fFn_encR, fRt_encR, fRd_encR, fSa_encR]; rfl
  | cvtSW | cvtDW =>
    change decode (encR 17 20 _ _ _ _) = _
    rw [decode_fmtW (fOp_encR ..) (fRs_encR ..), decodeFmtW, fFn_encR, fRt_encR, fRd_encR, fSa_encR]; rfl
  | cvtSL | cvtDL =>
    change decode (encR 17 21 _ _ _ _) = _
    rw [decode_fmtL (fOp_encR ..) (fRs_encR ..), decodeFmtL, fFn_encR, fRt_encR, fRd_encR, fSa_encR]; rfl
  | addPs | subPs | mulPs | absPs | movPs | negPs | cFPs | cUnPs | cEqPs | cUeqPs | cOltPs | cUltPs
  | cOlePs | cUlePs | cSfPs | cNglePs | cSeqPs | cNglPs | cLtPs | cNgePs | cLePs | cNgtPs =>
    change decode (encR 17 22 _ _ _ _) = _
    rw [decode_fmtPs (fOp_encR ..) (fRs_encR ..), decodeFmtPs, fFn_encR, fRt_encR, fRd_encR, fSa_encR]; rfl
  | multg | dmultg | multug | dmultug | divg | ddivg | divug | ddivug | modg | dmodg | modug
  | dmodug =>
    change decode (encR 28 _ _ _ _ _) = _
    rw [decode_special2 (fOp_encR ..), decodeSpecial2, fFn_encR, fRs_encR, fRt_encR, fRd_encR, fSa_encR]; rfl
  | maddS | maddD | maddPs | msubS | msubD | msubPs | nmaddS | nmaddD | nmaddPs | nmsubS | nmsubD
  | nmsubPs =>
    change decode (encR 28 _ _ _ _ _) = _
    rw [decode_special2 (fOp_encR ..), decodeSpecial2, fFn_encR]
    change decodeMadd (encR 28 _ _ _ _ _) _ _ _ = _
    rw [decodeMadd, fRs_encR, fRt_encR, fRd_encR, fSa_encR]; rfl

/-- Settles O1, by cases on the instruction, the rows of one map together. -/
theorem decodeOfEncode : Obligations.DecodeOfEncode := decode_encode

end Sys2Proof
end

section
/-! SUPPORT. O2: every row of the decoder's maps answers an instruction whose encoding is the word it read. -/

namespace Sys2Proof

/-- If the answer `r` of the decoder, or of one of its maps, is an instruction, that instruction encodes to `w`. -/
def Reads (w : BitVec 32) (r : Except DecodeError Instr) : Prop := ∀ i, r = .ok i → encode i = w

section
variable {w : BitVec 32}

@[simp] theorem reads_ok {i : Instr} : Reads w (.ok i) ↔ encode i = w :=
  ⟨fun h => h i rfl, fun h _ e => by cases e; exact h⟩

@[simp] theorem reads_error {e : DecodeError} : Reads w (.error e) := fun _ h => nomatch h

@[simp] theorem reads_fixedZero {z : Bool} {u : CopClass} {i : Instr} :
    Reads w (fixedZero z u i) ↔ (z = true → encode i = w) := by
  cases z
  · exact iff_of_true reads_error nofun
  · simp [fixedZero]

/-! When an encoding is the word `w`: its fields are those of `w`. A field that a map is split on is compared as a
number, as the map does. -/

theorem encR_eq_iff {op fn : BitVec 6} {rs rt rd sa : Reg} :
    encR op rs rt rd sa fn = w ↔ (fOp w).toNat = op.toNat ∧ (fRs w).toNat = rs.toNat ∧
      (fRt w).toNat = rt.toNat ∧ fRd w = rd ∧ fSa w = sa ∧ (fFn w).toNat = fn.toNat := by
  simp only [BitVec.toNat_inj]
  constructor
  · rintro rfl; simp
  · rintro ⟨rfl, rfl, rfl, rfl, rfl, rfl⟩; exact encR_fields w

theorem encI_eq_iff {op : BitVec 6} {rs rt : Reg} {imm : Imm16} :
    encI op rs rt imm = w ↔ (fOp w).toNat = op.toNat ∧ (fRs w).toNat = rs.toNat ∧
      (fRt w).toNat = rt.toNat ∧ fImm w = imm := by
  simp only [BitVec.toNat_inj]
  constructor
  · rintro rfl; simp
  · rintro ⟨rfl, rfl, rfl, rfl⟩; exact encI_fields w

theorem encJ_eq_iff {op : BitVec 6} {target : BitVec 26} :
    encJ op target = w ↔ (fOp w).toNat = op.toNat ∧ fTarget w = target := by
  simp only [BitVec.toNat_inj]
  constructor
  · rintro rfl; simp
  · rintro ⟨rfl, rfl⟩; exact encJ_fields w

theorem encCode_eq_iff {code : BitVec 20} {fn : BitVec 6} :
    encCode code fn = w ↔ (fOp w).toNat = 0 ∧ fCode20 w = code ∧ (fFn w).toNat = fn.toNat := by
  rw [BitVec.toNat_inj, show 0 = (0 : BitVec 6).toNat from rfl, BitVec.toNat_inj]
  constructor
  · rintro rfl; simp
  · rintro ⟨hop, rfl, rfl⟩; exact encCode_fields w hop

theorem encTrap_eq_iff {rs rt : Reg} {code : BitVec 10} {fn : BitVec 6} :
    encTrap rs rt code fn = w ↔ (fOp w).toNat = 0 ∧ fRs w = rs ∧ fRt w = rt ∧ fCode10 w = code ∧
      (fFn w).toNat = fn.toNat := by
  rw [BitVec.toNat_inj, show 0 = (0 : BitVec 6).toNat from rfl, BitVec.toNat_inj]
  constructor
  · rintro rfl; simp
  · rintro ⟨hop, rfl, rfl, rfl, rfl⟩; exact encTrap_fields w hop

/-! The maps. Each row gives the operands from their fields and asks the other fields to be zero; together with the
number that selected the row these are all the fields of its encoding (30_encoding.md R371). -/

theorem reads_decodeSpecial (hop : (fOp w).toNat = 0) : Reads w (decodeSpecial w) := by
  unfold decodeSpecial
  split <;> simp +contextual [encode, encR_eq_iff, encCode_eq_iff, encTrap_eq_iff, *]

theorem reads_decodeRegimm (hop : (fOp w).toNat = 1) : Reads w (decodeRegimm w) := by
  unfold decodeRegimm
  split <;> simp [encode, encI_eq_iff, *]

theorem reads_decodeCo (hop : (fOp w).toNat = 16) : Reads w (decodeCo w) := by
  unfold decodeCo
  split <;> simp +contextual [encode, encR_eq_iff, *]

theorem reads_decodeCop0 (hop : (fOp w).toNat = 16) : Reads w (decodeCop0 w) := by
  unfold decodeCop0
  split
  · exact reads_decodeCo hop
  · split <;> simp +contextual [encode, encR_eq_iff, *]

theorem reads_decodeBc1 (hop : (fOp w).toNat = 17) (hrs : (fRs w).toNat = 8) : Reads w (decodeBc1 w) := by
  unfold decodeBc1
  split <;> simp [encode, encI_eq_iff, *]

theorem reads_decodeFmtS (hop : (fOp w).toNat = 17) (hrs : (fRs w).toNat = 16) : Reads w (decodeFmtS w) := by
  unfold decodeFmtS
  split <;> simp +contextual [encode, encR_eq_iff, *]

theorem reads_decodeFmtD (hop : (fOp w).toNat = 17) (hrs : (fRs w).toNat = 17) : Reads w (decodeFmtD w) := by
  unfold decodeFmtD
  split <;> simp +contextual [encode, encR_eq_iff, *]

theorem reads_decodeFmtW (hop : (fOp w).toNat = 17) (hrs : (fRs w).toNat = 20) : Reads w (decodeFmtW w) := by
  unfold decodeFmtW
  split <;> simp +contextual [encode, encR_eq_iff, *]

theorem reads_decodeFmtL (hop : (fOp w).toNat = 17) (hrs : (fRs w).toNat = 21) : Reads w (decodeFmtL w) := by
  unfold decodeFmtL
  split <;> simp +contextual [encode, encR_eq_iff, *]

theorem reads_decodeFmtPs (hop : (fOp w).toNat = 17) (hrs : (fRs w).toNat = 22) : Reads w (decodeFmtPs w) := by
  unfold decodeFmtPs
  split <;> simp +contextual [encode, encR_eq_iff, *]

theorem reads_decodeCop1 (hop : (fOp w).toNat = 17) : Reads w (decodeCop1 w) := by
  unfold decodeCop1
  split
  case h_7 hrs => exact reads_decodeBc1 hop hrs
  case h_8 hrs => exact reads_decodeFmtS hop hrs
  case h_9 hrs => exact reads_decodeFmtD hop hrs
  case h_10 hrs => exact reads_decodeFmtW hop hrs
  case h_11 hrs => exact reads_decodeFmtL hop hrs
  case h_12 hrs => exact reads_decodeFmtPs hop hrs
  all_goals simp +contextual [encode, encR_eq_iff, *]

/-- The three formats of one multiply-add operation, told apart by `rs`. -/
theorem reads_decodeMadd {s d ps : Reg → Reg → Reg → Instr} {fn : BitVec 6} (hop : (fOp w).toNat = 28)
    (hs : ∀ ft fs fd, encode (s ft fs fd) = encR 28 16 ft fs fd fn)
    (hd : ∀ ft fs fd, encode (d ft fs fd) = encR 28 17 ft fs fd fn)
    (hps : ∀ ft fs fd, encode (ps ft fs fd) = encR 28 22 ft fs fd fn)
    (hfn : (fFn w).toNat = fn.toNat) : Reads w (decodeMadd w s d ps) := by
  unfold decodeMadd
  split <;> simp [encR_eq_iff, *]

theorem reads_decodeSpecial2 (hop : (fOp w).toNat = 28) : Reads w (decodeSpecial2 w) := by
  unfold decodeSpecial2
  split
  case h_9 hfn | h_10 hfn | h_11 hfn | h_12 hfn =>
    exact reads_decodeMadd hop (fun _ _ _ => rfl) (fun _ _ _ => rfl) (fun _ _ _ => rfl) hfn
  all_goals simp +contextual [encode, encR_eq_iff, *]

theorem reads_decode : Reads w (decode w) := by
  unfold decode
  split
  case h_1 hop => exact reads_decodeSpecial hop
  case h_2 hop => exact reads_decodeRegimm hop
  case h_17 hop => exact reads_decodeCop0 hop
  case h_18 hop => exact reads_decodeCop1 hop
  case h_28 hop => exact reads_decodeSpecial2 hop
  all_goals simp +contextual [encode, encI_eq_iff, encJ_eq_iff, *]

end

/-- Settles O2, by cases on the rows of the decoder's maps. -/
theorem encodeOfDecode : Obligations.EncodeOfDecode := fun _ => reads_decode

end Sys2Proof
end

section
/-! SUPPORT. O50: a meaning that its coprocessor guards takes CoprocessorUnusable where the guard fails. -/

namespace Sys2Proof.Machine

section
variable {i : Instr} {s : State} {x : Res}

theorem takes_coprocessor0 (hi : exec i s = withCp0 s x) (h : s.cp0Usable = false) : Takes i (.coprocessor 0) s :=
  hi.trans (if_neg (by simp [h]))

theorem takes_coprocessor1 (hi : exec i s = withCp1 s x) (h : s.cu 1 = false) : Takes i (.coprocessor 1) s :=
  hi.trans (if_neg (by simp [h]))

theorem readCp0_eq_withCp0 {rd : Reg} (h24 : rd ≠ 24) (h25 : rd ≠ 25) : readCp0 rd s x = withCp0 s x :=
  if_neg (by simpa using ⟨h24, h25⟩)

theorem cacheHitOp_iff {opn : Reg} : cacheHitOp opn = true ↔ opn ∈ ([0x11, 0x15, 0x13, 0x17] : List Reg) := by
  simp [cacheHitOp, or_assoc]

theorem takes_coprocessor0_cache {base opn : Reg} {offset : Imm16} (h : s.cp0Usable = false)
    (hu : s.mode ≠ some .user ∨ s.cp0.diag.getLsbD s.params.diagUMode = false ∨
      opn ∉ ([0x11, 0x15, 0x13, 0x17] : List Reg)) :
    Takes (.cache base opn offset) (.coprocessor 0) s := by
  have hc : ¬((s.cp0Usable || (s.userCache && cacheHitOp opn)) = true) := by
    rw [← cacheHitOp_iff] at hu
    simp only [h, State.userCache, Bool.false_or, Bool.and_eq_true, beq_iff_eq]
    rintro ⟨⟨hmode, hum⟩, hop⟩
    simp [hmode, hum, hop] at hu
  exact if_neg hc

end

/-- Settles O50: each instruction's meaning is guarded by its unit, and the guard fails. -/
theorem coprocessorUnusable : Obligations.CoprocessorUnusable := by
  refine ⟨fun s r q o h => ⟨?_, fun h24 h25 => ?_, takes_coprocessor0_cache h⟩, fun s r q p o h => ?_⟩
  · simp only [← List.forall_iff_forall_mem, List.Forall]
    repeat' apply And.intro
    all_goals exact takes_coprocessor0 rfl h
  · exact ⟨takes_coprocessor0 (readCp0_eq_withCp0 h24 h25) h, takes_coprocessor0 (readCp0_eq_withCp0 h24 h25) h⟩
  · simp only [← List.forall_iff_forall_mem, List.Forall]
    repeat' apply And.intro
    all_goals exact takes_coprocessor1 rfl h

end Sys2Proof.Machine
end

section
/-! SUPPORT. Bytes of DDR2 as a number and byte by byte, and accesses to uncached DDR2 that pass every check
(20_memory.md R250, R291, 61_platform.md R910, R920). -/

namespace Sys2Proof.Machine

/-! Bytes read from a memory (20_memory.md R250). -/

theorem shiftLeft_or_byte (x : Nat) (b : Byte) :
    BitVec.ofNat 256 x <<< 8 ||| b.setWidth 256 = BitVec.ofNat 256 (b.toNat + 256 * x) := by
  have hdisjoint : BitVec.ofNat 256 x <<< 8 &&& b.setWidth 256 = 0 := BitVec.eq_of_getLsbD_eq fun i hi => by
    by_cases h8 : i < 8
    · simp [h8]
    · simp [BitVec.getLsbD_of_ge b i (Nat.le_of_not_lt h8)]
  rw [← BitVec.add_eq_or_of_and_eq_zero _ _ hdisjoint, BitVec.shiftLeft_eq_mul_twoPow]
  apply BitVec.eq_of_toNat_eq
  simp
  omega

theorem readBytes_eq_ofNat (s : State) (a n : Nat) :
    readBytes s.mem.ddr a n = BitVec.ofNat 256 (ddrNat s a n) := by
  induction n generalizing a with
  | zero => rfl
  | succ n ih => rw [readBytes, ih, shiftLeft_or_byte, ddrNat]

/-- Byte `k` of what is read is byte `k` of the memory from the address up. -/
theorem byte_readBytes (m : Memory) (a : Nat) {n k : Nat} (hk : k < n) (hn : n ≤ 32) :
    (readBytes m a n).extractLsb' (8 * k) 8 = readByte m (a + k) := by
  induction n generalizing a k with
  | zero => omega
  | succ n ih =>
    cases k with
    | zero => exact BitVec.eq_of_getLsbD_eq fun i hi => by simp [readBytes, hi, show i < 256 by omega]
    | succ k =>
      rw [show a + (k + 1) = a + 1 + k by omega, ← ih (a + 1) (by omega) (by omega), readBytes]
      refine byte_ext fun i hi => ?_
      have hpos : 8 * (k + 1) + i - 8 = 8 * k + i := by omega
      simp only [BitVec.getLsbD_or, BitVec.getLsbD_shiftLeft, BitVec.getLsbD_setWidth, hpos]
      grind

theorem ddrNat_lt (s : State) (a n : Nat) : ddrNat s a n < 256 ^ n := by
  induction n generalizing a with
  | zero => simp [ddrNat]
  | succ n ih =>
    have hbyte := (readByte s.mem.ddr a).isLt
    have hrest := ih (a + 1)
    rw [ddrNat, Nat.pow_succ]
    omega

/-- Nothing is read beyond the bytes asked for. -/
theorem getBytes_readBytes (s : State) (a : Nat) {n : Nat} (hn : n ≤ 32) :
    getBytes (readBytes s.mem.ddr a n) 0 n = readBytes s.mem.ddr a n := by
  have hlt := ddrNat_lt s a n
  have hle : 256 ^ n ≤ 2 ^ 256 := (Nat.pow_le_pow_right (by decide) hn).trans (by decide : 256 ^ 32 ≤ 2 ^ 256)
  have hnum : lineNat (readBytes s.mem.ddr a n) 0 n = ddrNat s a n := by
    rw [lineNat, readBytes_eq_ofNat, BitVec.toNat_ofNat, Nat.mod_eq_of_lt (hlt.trans_le hle), Nat.pow_zero, Nat.div_one,
      Nat.mod_eq_of_lt hlt]
  rw [getBytes_eq_ofNat _ _ hn, hnum, readBytes_eq_ofNat]

/-! The shared operations on memory (40_load_store.md R401). -/

section
variable {s : State} {al : Bool} {va start : Word} {n a : Nat}

/-- A read of DDR2 under an uncached attribute takes its bytes and changes nothing. -/
theorem readAttr_ddr {x : MemCtx} {c : BitVec 3} {pa : PAddr} {m : MemSys} (h3 : c ≠ 3) (h7 : c ≠ 7)
    (hroute : route m.chip pa.toNat = .ok (.ddr a)) (hready : m.chip.ddrReady = true)
    (hsize : a + n ≤ x.params.ddrSize) : readAttr x c va pa n m = .ok (readBytes m.ddr a n) m := by
  rw [readAttr, if_neg h3, if_neg fun h => h7 (of_decide_eq_true (Bool.and_elim_left h))]
  simp [busRead, hroute, ddrRead, hready, hsize]

theorem busWrite_ddr {x : MemCtx} {pa : PAddr} {m : MemSys} (v : BitVec 256)
    (hroute : route m.chip pa.toNat = .ok (.ddr a)) (hready : m.chip.ddrReady = true)
    (hsize : a + n ≤ x.params.ddrSize) :
    busWrite x pa n v m = .ok () { m with ddr := writeBytes m.ddr a v n } := by
  simp [busWrite, hroute, ddrWrite_inRange hready hsize]

theorem drainGather_none {x : MemCtx} {m : MemSys} (h : m.gather = none) : drainGather x m = .ok () m := by
  unfold drainGather
  rw [h]

/-- A write of DDR2 under an uncached attribute, nothing gathered, writes its bytes and nothing else. -/
theorem writeAttr_ddr {x : MemCtx} {c : BitVec 3} {pa : PAddr} {m : MemSys} (v : BitVec 256) (h3 : c ≠ 3)
    (h7 : c ≠ 7) (hg : m.gather = none) (hroute : route m.chip pa.toNat = .ok (.ddr a))
    (hready : m.chip.ddrReady = true) (hsize : a + n ≤ x.params.ddrSize) :
    writeAttr x c va pa n v m = .ok () { m with ddr := writeBytes m.ddr a v n } := by
  rw [writeAttr, if_neg h3, if_neg h7, drainGather_none hg]
  exact busWrite_ddr v hroute hready hsize

theorem memRead_ram (h : PlainRam s false al va start n a) :
    memRead s al va start n = .ok (readBytes s.mem.ddr a n) s.mem := by
  obtain ⟨pa, c, ht, h3, h7, hroute, hready, hsize⟩ := h
  rw [memRead, ht]
  exact readAttr_ddr h3 h7 hroute hready hsize

theorem memWrite_ram (v : BitVec 256) (hg : s.mem.gather = none) (h : PlainRam s true al va start n a) :
    memWrite s al va start n v = .ok () { s.mem with ddr := writeBytes s.mem.ddr a v n } := by
  obtain ⟨pa, c, ht, h3, h7, hroute, hready, hsize⟩ := h
  rw [memWrite, ht]
  exact writeAttr_ddr v h3 h7 hg hroute hready hsize

/-- The state with the low `n` bytes of `v` stored into DDR2 from `a` up. -/
def State.storedDdr (s : State) (a n : Nat) (v : Word) : State :=
  { s with mem := { s.mem with ddr := writeBytes s.mem.ddr a (v.setWidth 256) n } }

/-- Bytes stored into DDR2, in the terms claims are stated in. -/
theorem onlyDdr_storedDdr {v v' : Word} (hwf : Memory.wf s.mem.ddr = true) (hn : n ≤ 32)
    (hv : ∀ k, k < n → v.extractLsb' (8 * k) 8 = v'.extractLsb' (8 * k) 8) :
    OnlyDdr a n v' s (advance (s.storedDdr a n v)) := by
  refine ⟨⟨rfl, rfl, rfl⟩, fun k hk => ?_, fun b hb => readByte_writeBytes_other _ _ _ _ hwf hb, rfl⟩
  rw [← hv k hk, ← byte_setWidth v (v := 256) (by omega)]
  exact readByte_writeBytes _ _ _ _ hwf hk

end

end Sys2Proof.Machine
end

section
/-! SUPPORT. O33 and O34: the number or the bytes of uncached DDR2 go into the register (40_load_store.md R404 to
R415). -/

namespace Sys2Proof.Machine

section
variable {s : State} {base rt : Reg} {offset : Imm16} {n a : Nat} {va start : Word}

/-- A natural load of uncached DDR2. -/
theorem does_loadReg_ram {i : Instr} {ext : BitVec 256 → Word} {v : Word}
    (hi : exec i s = loadReg base rt offset n ext s) (hr : rt ≠ 0)
    (hv : ext (BitVec.ofNat 256 (ddrNat s a n)) = v)
    (h : PlainRam s false (alignedTo n (s.ea base offset)) (s.ea base offset) (s.ea base offset) n a) :
    Does i s (OnlyGpr rt v) := by
  refine does_writeNext (hi.trans ?_) hv
  unfold loadReg
  rw [if_neg hr, memRead_ram h, readBytes_eq_ofNat]
  rfl

/-- An unaligned load of uncached DDR2. -/
theorem does_loadPart_ram {i : Instr} {into : Word → BitVec 256 → Word}
    (hi : exec i s = loadPart rt va start n into s) (hr : rt ≠ 0) (h : PlainRam s false true va start n a) :
    Does i s (OnlyGpr rt (into (s.reg rt) (readBytes s.mem.ddr a n))) := by
  refine does_writeNext (hi.trans ?_) rfl
  unfold loadPart
  rw [if_neg hr, memRead_ram h]
  rfl

end

/-- Settles O33: form by form, the number of the bytes and its extension. -/
theorem loads : Obligations.Loads := fun _ _ _ _ _ hr =>
  ⟨does_loadReg_ram rfl hr (signExtend_ofNat_256 (by decide) _),
    does_loadReg_ram rfl hr (BitVec.setWidth_ofNat_of_le (by decide) _),
    does_loadReg_ram rfl hr (signExtend_ofNat_256 (by decide) _),
    does_loadReg_ram rfl hr (BitVec.setWidth_ofNat_of_le (by decide) _),
    does_loadReg_ram rfl hr (signExtend_ofNat_256 (by decide) _),
    does_loadReg_ram rfl hr (BitVec.setWidth_ofNat_of_le (by decide) _),
    does_loadReg_ram rfl hr (BitVec.setWidth_ofNat_of_le (by decide) _)⟩

/-! The unaligned forms (40_load_store.md R411). -/

/-- Clearing the low bits of an address takes off their number. -/
theorem and_not_lowBits (x : Word) (k : Nat) :
    x &&& ~~~(BitVec.ofNat 64 (2 ^ k - 1)) = x - BitVec.ofNat 64 (x.toNat % 2 ^ k) := by
  have hlow : x &&& BitVec.ofNat 64 (2 ^ k - 1) = BitVec.ofNat 64 (x.toNat % 2 ^ k) := by
    rw [← Nat.and_two_pow_sub_one_eq_mod, BitVec.ofNat_and, BitVec.ofNat_toNat, BitVec.setWidth_eq]
  have hdisjoint : x &&& ~~~(BitVec.ofNat 64 (2 ^ k - 1)) &&& (x &&& BitVec.ofNat 64 (2 ^ k - 1)) = 0 := by
    ext i hi
    simp
    grind
  have hunion : x &&& ~~~(BitVec.ofNat 64 (2 ^ k - 1)) ||| x &&& BitVec.ofNat 64 (2 ^ k - 1) = x := by
    ext i hi
    simp
    grind
  rw [← hlow, eq_comm, sub_eq_iff_eq_add, BitVec.add_eq_or_of_and_eq_zero _ _ hdisjoint, hunion]

theorem wordStart_eq (va : Word) : va &&& ~~~3 = va - BitVec.ofNat 64 (va.toNat % 4) := and_not_lowBits va 2

theorem doubleStart_eq (va : Word) : va &&& ~~~7 = va - BitVec.ofNat 64 (va.toNat % 8) := and_not_lowBits va 3

/-- A byte that comes from memory where `c` says so. -/
theorem byte_readBytes_or {c : Prop} [Decidable c] (m : Memory) (a : Nat) {n j : Nat} (x : Byte) (hn : n ≤ 32)
    (hj : c → j < n) : (if c then (readBytes m a n).extractLsb' (8 * (0 + j)) 8 else x)
      = if c then readByte m (a + j) else x := by
  split
  next hc => rw [Nat.zero_add, byte_readBytes m a (hj hc) hn]
  next => rfl

/-- Settles O34: the bytes each form takes from memory, the others kept. -/
theorem unalignedLoads : Obligations.UnalignedLoads := by
  intro s base rt offset a hr va b d old
  have hb : (s.ea base offset).toNat % 4 < 4 := Nat.mod_lt _ (by decide)
  have hd : (s.ea base offset).toNat % 8 < 8 := Nat.mod_lt _ (by decide)
  have hlwl := exec_lwl s base rt offset
  have hlwr := exec_lwr s base rt offset
  have hldl := exec_ldl s base rt offset
  have hldr := exec_ldr s base rt offset
  rw [wordByte_eq] at hlwl hlwr
  rw [doubleByte_eq] at hldl hldr
  rw [wordStart_eq] at hlwl
  rw [doubleStart_eq] at hldl
  refine ⟨fun h => ?_, fun h => ?_, fun h => ?_, fun h => ?_⟩
  · obtain ⟨t, ht, honly⟩ := does_loadPart_ram hlwl hr h
    refine ⟨t, ht, _, honly, isWord_sext32 _, fun k hk => ?_⟩
    rw [← getBytes_readBytes s a (by omega), byte_intoLwl _ _ hb _ hk]
    exact byte_readBytes_or _ _ _ (by omega) (by omega)
  · obtain ⟨t, ht, honly⟩ := does_loadPart_ram hlwr hr h
    refine ⟨t, ht, _, honly, isWord_sext32 _, fun k hk => ?_⟩
    rw [← getBytes_readBytes s a (by omega), byte_intoLwr _ _ _ hk]
    exact byte_readBytes_or _ _ _ (by omega) (by omega)
  · obtain ⟨t, ht, honly⟩ := does_loadPart_ram hldl hr h
    refine ⟨t, ht, _, honly, fun k hk => ?_⟩
    rw [← getBytes_readBytes s a (by omega), byte_intoLdl _ _ hd _ hk]
    exact byte_readBytes_or _ _ _ (by omega) (by omega)
  · obtain ⟨t, ht, honly⟩ := does_loadPart_ram hldr hr h
    refine ⟨t, ht, _, honly, fun k hk => ?_⟩
    rw [← getBytes_readBytes s a (by omega), byte_intoLdr _ _ _ hk]
    exact byte_readBytes_or _ _ _ (by omega) (by omega)

end Sys2Proof.Machine
end

section
/-! SUPPORT. O36, O37 and O39: stores to uncached DDR2, and the floating forms (40_load_store.md R416 to R427). -/

namespace Sys2Proof.Machine

section
variable {s : State} {base rt : Reg} {offset : Imm16} {n a : Nat} {va start : Word}

/-- A natural store to uncached DDR2. -/
theorem does_storeMem_ram {i : Instr} {v : Word} (hi : exec i s = storeMem base offset n v s) (hn : n ≤ 32)
    (hwf : Memory.wf s.mem.ddr = true) (hg : s.mem.gather = none)
    (h : PlainRam s true (alignedTo n (s.ea base offset)) (s.ea base offset) (s.ea base offset) n a) :
    Does i s (OnlyDdr a n v) := by
  refine ⟨_, hi.trans ?_, onlyDdr_storedDdr hwf hn fun _ _ => rfl⟩
  unfold storeMem
  dsimp only
  rw [memWrite_ram _ hg h]
  rfl

/-- An unaligned store to uncached DDR2. -/
theorem does_storePart_ram {i : Instr} {v v' : Word} (hi : exec i s = storePart va start n v s) (hn : n ≤ 32)
    (hv : ∀ k, k < n → v.extractLsb' (8 * k) 8 = v'.extractLsb' (8 * k) 8) (hwf : Memory.wf s.mem.ddr = true)
    (hg : s.mem.gather = none) (h : PlainRam s true true va start n a) : Does i s (OnlyDdr a n v') := by
  refine ⟨_, hi.trans ?_, onlyDdr_storedDdr hwf hn hv⟩
  unfold storePart
  rw [memWrite_ram _ hg h]
  rfl

end

/-- Settles O36: the four natural stores. -/
theorem stores : Obligations.Stores := fun _ _ _ _ _ hwf hg =>
  ⟨does_storeMem_ram rfl (by decide) hwf hg, does_storeMem_ram rfl (by decide) hwf hg,
    does_storeMem_ram rfl (by decide) hwf hg, does_storeMem_ram rfl (by decide) hwf hg⟩

/-- Settles O37: the part of the register each form stores, and where it starts. -/
theorem unalignedStores : Obligations.UnalignedStores := by
  intro s base rt offset a hwf hg va b d
  have hb : (s.ea base offset).toNat % 4 < 4 := Nat.mod_lt _ (by decide)
  have hswl := exec_swl s base rt offset
  have hswr := exec_swr s base rt offset
  have hsdl := exec_sdl s base rt offset
  have hsdr := exec_sdr s base rt offset
  rw [wordByte_eq] at hswl hswr
  rw [doubleByte_eq] at hsdl hsdr
  rw [wordStart_eq] at hswl
  rw [doubleStart_eq] at hsdl
  refine ⟨?_, ?_, ?_, ?_⟩
  · exact does_storePart_ram hswl (by omega) (fun k hk => byte_swl _ hb hk) hwf hg
  · exact does_storePart_ram hswr (by omega) (fun _ _ => rfl) hwf hg
  · exact does_storePart_ram hsdl (by omega) (fun _ _ => rfl) hwf hg
  · exact does_storePart_ram hsdr (by omega) (fun _ _ => rfl) hwf hg

/-! The floating forms (40_load_store.md R424 to R427). -/

section
variable {s : State} {base rt : Reg} {offset : Imm16} {a : Nat}

theorem does_lwc1_ram (hu : s.cu 1 = true)
    (h : PlainRam s false (alignedTo 4 (s.ea base offset)) (s.ea base offset) (s.ea base offset) 4 a) :
    Does (.lwc1 base rt offset) s (OnlyFprS rt (BitVec.ofNat 32 (ddrNat s a 4)) s.fcr31) := by
  refine ⟨_, ?_, onlyFprS_advance s rt _⟩
  change execLwc1 base rt offset s = _
  unfold execLwc1
  rw [withCp1_usable hu, memRead_ram h, readBytes_eq_ofNat,
    ← BitVec.setWidth_ofNat_of_le (v := 32) (w := 256) (by decide)]
  rfl

theorem does_ldc1_ram (hu : s.cu 1 = true) (hd : s.doubleOk rt = true)
    (h : PlainRam s false (alignedTo 8 (s.ea base offset)) (s.ea base offset) (s.ea base offset) 8 a) :
    Does (.ldc1 base rt offset) s (OnlyFprD rt (BitVec.ofNat 64 (ddrNat s a 8)) s.fcr31) := by
  refine ⟨_, ?_, onlyFprD_advance s rt _ s.fcr31⟩
  change execLdc1 base rt offset s = _
  unfold execLdc1
  rw [withCp1_usable hu, withDouble_one hd, memRead_ram h, readBytes_eq_ofNat,
    ← BitVec.setWidth_ofNat_of_le (v := 64) (w := 256) (by decide)]
  rfl

end

/-- Settles O39: with CP1 usable the stores are natural stores of the register, the loads its writes. -/
theorem floatingLoadsStores : Obligations.FloatingLoadsStores := fun _ _ _ _ _ hu =>
  ⟨does_lwc1_ram hu, does_ldc1_ram hu, does_storeMem_ram (withCp1_usable hu) (by decide),
    fun hwf hg hd => does_storeMem_ram ((withCp1_usable hu).trans (withDouble_one hd)) (by decide) hwf hg⟩

end Sys2Proof.Machine
end

section
/-! SUPPORT. O38: LL and LLD load and set the link, SC and SCD store under it or fail (40_load_store.md R428 to
R432). -/

namespace Sys2Proof.Machine

/-- What a linked load leaves: the link at the translated address, and the register (R429, R430). -/
def LoadedLinked (rt : Reg) (aligned : Bool) (va v : Word) (s t : State) : Prop :=
  t.llBit = true ∧ (∃ c, translateData s false aligned va = .ok t.llAddr c)
    ∧ OnlyGpr rt v s { t with llBit := s.llBit, llAddr := s.llAddr }

/-- What a conditional store that is done leaves: 1 in the register, LLbit clear, the bytes in DDR2 (R431). -/
def StoredConditional (rt : Reg) (a n : Nat) (s t : State) : Prop :=
  t.llBit = false ∧ t.reg rt = (if rt = 0 then 0 else 1) ∧ (∀ q, q ≠ rt → t.reg q = s.reg q)
    ∧ OnlyDdr a n (s.reg rt) s { t with llBit := s.llBit, gpr := s.gpr }

/-- What a conditional store that fails leaves: 0 in the register, LLbit clear (R431). -/
def FailedConditional (rt : Reg) (s t : State) : Prop :=
  t.llBit = false ∧ OnlyGpr rt 0 s { t with llBit := s.llBit }

/-- Does SC store at `pa`: under the link, at its address or where a free value allows another (R431)? -/
def State.storesAt (s : State) (pa : PAddr) : Bool :=
  s.llBit && (s.llAddr == pa || (draw 1 .scOther s.tick 0).getLsbD 0)

theorem storesAt_linked {s : State} (h : s.llBit = true) : s.storesAt s.llAddr = true := by
  simp [State.storesAt, h]

theorem storesAt_unlinked {s : State} (h : s.llBit = false) (pa : PAddr) : s.storesAt pa = false := by
  simp [State.storesAt, h]

section
variable {s : State} {base rt : Reg} {offset : Imm16} {n a : Nat} {pa : PAddr} {c : BitVec 3} {i : Instr}

/-- LL and LLD of uncached DDR2. -/
theorem does_loadLinked_ram {ext : BitVec 256 → Word} {v : Word} (hi : exec i s = loadLinked base rt offset n ext s)
    (hv : ext (BitVec.ofNat 256 (ddrNat s a n)) = v)
    (h : PlainRam s false (alignedTo n (s.ea base offset)) (s.ea base offset) (s.ea base offset) n a) :
    Does i s (LoadedLinked rt (alignedTo n (s.ea base offset)) (s.ea base offset) v) := by
  obtain ⟨pa, c, ht, h3, h7, hroute, hready, hsize⟩ := h
  rw [translateData_same ht] at hroute
  have he : exec i s = writeNext rt v { s with llBit := true, llAddr := pa } := by
    rw [hi, loadLinked, ht]
    dsimp only
    rw [readAttr_ddr h3 h7 hroute hready hsize, readBytes_eq_ofNat, ← hv]
    rfl
  exact ⟨_, he, by simp, ⟨c, by simpa using ht⟩, onlyGpr_linked v true pa⟩

/-! SC and SCD (R431, R432). -/

/-- After the checks of alignment, segment and TLB the link decides. -/
theorem storeConditional_checked
    (ht : translate s .store (alignedTo n (s.ea base offset)) (s.ea base offset) = .ok pa c) :
    storeConditional base rt offset n s =
      if s.storesAt pa then
        if watched s true (s.ea base offset) then raise .watch s
        else afterMem s (writeAttr s.ctx c (s.ea base offset) pa n ((s.reg rt).setWidth 256) s.mem) fun _ s1 =>
          writeNext rt 1 { s1 with llBit := false }
      else writeNext rt 0 { s with llBit := false } := by
  unfold storeConditional
  dsimp only
  rw [ht]
  rfl

theorem storeConditional_stored {m : MemSys}
    (ht : translateData s true (alignedTo n (s.ea base offset)) (s.ea base offset) = .ok pa c)
    (hc : s.storesAt pa = true)
    (hm : writeAttr s.ctx c (s.ea base offset) pa n ((s.reg rt).setWidth 256) s.mem = .ok () m) :
    storeConditional base rt offset n s = writeNext rt 1 { s with mem := m, llBit := false } := by
  obtain ⟨htr, hwatch⟩ := translateData_ok ht
  rw [if_pos rfl] at htr
  rw [storeConditional_checked htr, hc, hwatch, hm]
  rfl

theorem failedConditional_writeNext :
    FailedConditional rt s (advance (({ s with llBit := false } : State).setReg rt 0)) := by
  have hsame : ({ advance (({ s with llBit := false } : State).setReg rt 0) with llBit := s.llBit } : State)
      = advance (s.setReg rt 0) := by
    unfold State.setReg
    split <;> rfl
  refine ⟨by simp, ?_⟩
  rw [hsame]
  exact onlyGpr_setReg s rt 0

theorem storedConditional_writeNext (hwf : Memory.wf s.mem.ddr = true) (hn : n ≤ 32) :
    StoredConditional rt a n s
      (advance (({ s.storedDdr a n (s.reg rt) with llBit := false } : State).setReg rt 1)) := by
  have hsame : ({ advance (({ s.storedDdr a n (s.reg rt) with llBit := false } : State).setReg rt 1) with
      llBit := s.llBit, gpr := s.gpr } : State) = advance (s.storedDdr a n (s.reg rt)) := by
    unfold State.setReg
    split <;> rfl
  obtain ⟨-, hreg, hother, -⟩ :=
    onlyGpr_setReg ({ s.storedDdr a n (s.reg rt) with llBit := false } : State) rt 1
  refine ⟨by simp, hreg, hother, ?_⟩
  rw [hsame]
  exact onlyDdr_storedDdr hwf hn fun _ _ => rfl

/-- SC or SCD that fails. -/
theorem does_storeConditional_fail (hi : exec i s = storeConditional base rt offset n s)
    (ht : translate s .store (alignedTo n (s.ea base offset)) (s.ea base offset) = .ok pa c)
    (hc : s.storesAt pa = false) : Does i s (FailedConditional rt) := by
  refine ⟨_, hi.trans ?_, failedConditional_writeNext⟩
  rw [storeConditional_checked ht, hc]
  rfl

/-- SC or SCD without the link. -/
theorem does_storeConditional_unlinked (hi : exec i s = storeConditional base rt offset n s) (hl : s.llBit = false)
    (h : ∃ pa c, translate s .store (alignedTo n (s.ea base offset)) (s.ea base offset) = .ok pa c) :
    Does i s (FailedConditional rt) := by
  obtain ⟨pa, c, ht⟩ := h
  exact does_storeConditional_fail hi ht (storesAt_unlinked hl pa)

/-- SC or SCD under the link at a watched address (R401, 11_cp0_registers.md R202). -/
theorem takes_watch_storeConditional (hi : exec i s = storeConditional base rt offset n s) (hl : s.llBit = true)
    (hw : watched s true (s.ea base offset) = true)
    (h : ∃ c, translate s .store (alignedTo n (s.ea base offset)) (s.ea base offset) = .ok s.llAddr c) :
    Takes i .watch s := by
  obtain ⟨c, ht⟩ := h
  refine hi.trans ?_
  rw [storeConditional_checked ht, storesAt_linked hl, hw]
  rfl

section
variable (hi : exec i s = storeConditional base rt offset n s) (hn : n ≤ 32) (hwf : Memory.wf s.mem.ddr = true)
  (hg : s.mem.gather = none)
  (h : PlainRam s true (alignedTo n (s.ea base offset)) (s.ea base offset) (s.ea base offset) n a)
include hi hn hwf hg h

/-- SC or SCD of uncached DDR2 where it stores. -/
theorem does_storeConditional_store
    (ht : translateData s true (alignedTo n (s.ea base offset)) (s.ea base offset) = .ok pa c)
    (hc : s.storesAt pa = true) : Does i s (StoredConditional rt a n) := by
  obtain ⟨pa', c', ht', h3, h7, hroute, hready, hsize⟩ := h
  obtain ⟨rfl, rfl⟩ : pa' = pa ∧ c' = c := by simpa using ht'.symm.trans ht
  rw [translateData_same ht] at hroute
  have hm := writeAttr_ddr (x := s.ctx) (va := s.ea base offset) ((s.reg rt).setWidth 256) h3 h7 hg hroute hready hsize
  exact ⟨_, hi.trans (storeConditional_stored ht hc hm), storedConditional_writeNext hwf hn⟩

/-- SC or SCD of uncached DDR2 under the link at its address. -/
theorem does_storeConditional_linked (hl : s.llBit = true)
    (ht : ∃ c, translateData s true (alignedTo n (s.ea base offset)) (s.ea base offset) = .ok s.llAddr c) :
    Does i s (StoredConditional rt a n) := by
  obtain ⟨c, ht⟩ := ht
  exact does_storeConditional_store hi hn hwf hg h ht (storesAt_linked hl)

/-- SC or SCD of uncached DDR2, wherever the link is: it stores or fails. -/
theorem does_storeConditional_either :
    Does i s fun s t => StoredConditional rt a n s t ∨ FailedConditional rt s t := by
  have ⟨pa, c, ht, _⟩ := h
  cases hc : s.storesAt pa with
  | true =>
    obtain ⟨t, he, hstored⟩ := does_storeConditional_store hi hn hwf hg h ht hc
    exact ⟨t, he, .inl hstored⟩
  | false =>
    obtain ⟨htr, -⟩ := translateData_ok ht
    obtain ⟨t, he, hfailed⟩ := does_storeConditional_fail hi htr hc
    exact ⟨t, he, .inr hfailed⟩

end

end

/-- Settles O38: LL and LLD, then each outcome of SC and SCD. -/
theorem linkedAccesses : Obligations.LinkedAccesses := by
  intro s base rt offset a va linked stored failed
  refine ⟨?_, ?_, fun hwf hg hl => ?_, fun hl hva hw => ?_, fun hl => ?_⟩
  · exact does_loadLinked_ram rfl (signExtend_ofNat_256 (by decide) _)
  · exact does_loadLinked_ram rfl (BitVec.setWidth_ofNat_of_le (by decide) _)
  · exact ⟨fun h => does_storeConditional_linked rfl (by decide) hwf hg h hl,
      fun h => does_storeConditional_linked rfl (by decide) hwf hg h hl,
      does_storeConditional_either rfl (by decide) hwf hg, does_storeConditional_either rfl (by decide) hwf hg⟩
  · have hwatch : watched s true va = true := by simp [watched, hva, hw]
    exact ⟨takes_watch_storeConditional rfl hl hwatch, takes_watch_storeConditional rfl hl hwatch⟩
  · exact ⟨does_storeConditional_unlinked rfl hl, does_storeConditional_unlinked rfl hl⟩

end Sys2Proof.Machine
end

section
/-! SUPPORT. O35: a load to register 0 is a prefetch (40_load_store.md R403). -/

namespace Sys2Proof.Machine

/-- What a translation may give where a load to register 0 changes nothing but the program counter: an exception,
or an address that is not cached. -/
def Unfilled (s : State) (aligned : Bool) (va : Word) : Prop :=
  (∃ e, translate s .load aligned va = .exc e) ∨ ∃ pa c, translate s .load aligned va = .ok pa c ∧ c ≠ 3

section
variable {s : State} {aligned : Bool} {va : Word}

theorem prefetch_unfilled (h : Unfilled s aligned va) : prefetch aligned va s = .next (advance s) := by
  unfold prefetch
  obtain ⟨e, ht⟩ | ⟨pa, c, ht, hc⟩ := h
  · rw [ht]
  · rw [ht]
    exact if_neg hc

/-- Whatever a prefetch gives, only the memory system and the program counter have changed. -/
theorem nextIs_prefetch_onlyPc : NextIs (fun t => OnlyPc s { t with mem := s.mem }) (prefetch aligned va s) :=
  nextIs_prefetch (onlyPc_advance s) fun _ _ _ _ => onlyPc_advance s

end

section
variable (s : State) (base : Reg) (offset : Imm16)

/-- The loads to register 0, each with the bytes its alignment asks for; an unaligned form asks for none. -/
def zeroLoads : List (Instr × Nat) :=
  [(.lb base 0 offset, 1), (.lbu base 0 offset, 1), (.lwl base 0 offset, 1), (.lwr base 0 offset, 1),
    (.ldl base 0 offset, 1), (.ldr base 0 offset, 1), (.lh base 0 offset, 2), (.lhu base 0 offset, 2),
    (.lw base 0 offset, 4), (.lwu base 0 offset, 4), (.ld base 0 offset, 8)]

theorem exec_zeroLoads : ∀ p ∈ zeroLoads base offset,
    exec p.1 s = prefetch (alignedTo p.2 (s.ea base offset)) (s.ea base offset) s := by
  have hpart : prefetch true (s.ea base offset) s
      = prefetch (alignedTo 1 (s.ea base offset)) (s.ea base offset) s := by rw [alignedTo_one]
  simp only [zeroLoads, List.forall_mem_cons, List.not_mem_nil, false_imp_iff, implies_true, and_true]
  exact ⟨rfl, rfl, hpart, hpart, hpart, hpart, rfl, rfl, rfl, rfl, rfl⟩

end

/-- Settles O35: each form is a prefetch. -/
theorem loadToRegisterZero : Obligations.LoadToRegisterZero := by
  intro s base offset va quiet
  have hdoes : ∀ i n, (i, n) ∈ zeroLoads base offset → Unfilled s (alignedTo n va) va → Does i s OnlyPc :=
    fun i n hi hq => does_advance ((exec_zeroLoads s base offset _ hi).trans (prefetch_unfilled hq))
  refine ⟨fun hq i hi => hdoes i 1 (by simpa [zeroLoads] using hi) hq,
    fun hq i hi => hdoes i 2 (by simpa [zeroLoads] using hi) hq,
    fun hq i hi => hdoes i 4 (by simpa [zeroLoads] using hi) hq,
    fun hq => hdoes _ 8 (by simp [zeroLoads]) hq, fun i hi => ?_⟩
  obtain ⟨n, hn⟩ : ∃ n, (i, n) ∈ zeroLoads base offset := by simpa [zeroLoads, exists_or] using hi
  have hprefetch := exec_zeroLoads s base offset _ hn
  dsimp only at hprefetch
  rw [hprefetch]
  exact nextIs_prefetch_onlyPc

end Sys2Proof.Machine
end

section
/-! SUPPORT. O40: the gather buffer goes out, and SYNC (20_memory.md R297, R303). -/

namespace Sys2Proof.Machine

/-! A drain leaves nothing gathered. -/

/-- No bus write touches the gather buffer. -/
theorem gather_busWrite (x : MemCtx) (pa : PAddr) (n : Nat) (v : BitVec 256) (m : MemSys) :
    (busWrite x pa n v m).All fun m' => m'.gather = m.gather := by
  unfold busWrite
  split
  · trivial
  · split
    · rfl
    · trivial
  · split
    · rfl
    · split
      · rfl
      · trivial
  · change (ddrWrite _ _ _ _ _).gather = _
    unfold ddrWrite
    split
    · rfl
    · split <;> rfl
  · unfold ioWrite
    dsimp only
    split
    · trivial
    · split <;> trivial
  · rfl

theorem gather_drainBytes (x : MemCtx) (g : GatherBuf) (k : Nat) {m₀ m : MemSys} (h : m.gather = m₀.gather) :
    (drainBytes x g k m).All fun m' => m'.gather = m₀.gather := by
  induction k generalizing m with
  | zero => exact h
  | succ k ih =>
    unfold drainBytes
    dsimp only
    split
    · refine MemRes.All_bind ?_ fun _ m1 h1 => ih h1
      rw [← h]
      exact gather_busWrite x _ _ _ m
    · exact ih h

theorem gather_drainGather (x : MemCtx) (m : MemSys) : (drainGather x m).All fun m' => m'.gather = none := by
  unfold drainGather
  split
  · assumption
  · split
    · exact gather_busWrite x _ _ _ { m with gather := none }
    · exact gather_drainBytes x _ _ (m₀ := { m with gather := none }) rfl

/-! A drain to DDR2. -/

/-- From byte `lo` on the held bytes of the buffer are in `d'` from address `a` up, and every other byte of `d'`
is that of `d`. -/
def DrainedTo (g : GatherBuf) (a lo : Nat) (d d' : Memory) : Prop :=
  (∀ k, lo ≤ k → k < 32 → g.held.getLsbD k = true → readByte d' (a + k) = g.data.extractLsb' (8 * k) 8)
    ∧ ∀ q, (∀ k, lo ≤ k → k < 32 → g.held.getLsbD k = true → q ≠ a + k) → readByte d' q = readByte d q

theorem drainedTo_refl (g : GatherBuf) (a : Nat) (d : Memory) : DrainedTo g a 32 d d :=
  ⟨fun _ _ _ => by omega, fun _ _ => rfl⟩

/-- A byte that is not held is passed over. -/
theorem DrainedTo.skip {g : GatherBuf} {a i : Nat} {d d' : Memory} (hi : g.held.getLsbD i = false)
    (h : DrainedTo g a (i + 1) d d') : DrainedTo g a i d d' := by
  obtain ⟨hheld, hother⟩ := h
  have hne : ∀ k, g.held.getLsbD k = true → k ≠ i := by
    rintro k hk rfl
    exact absurd hk (by simp [hi])
  refine ⟨fun k hik hk hh => hheld k ?_ hk hh, fun q hq => hother q fun k hik hk hh => hq k (by omega) hk hh⟩
  have := hne k hh
  omega

/-- A held byte is written, and the later ones after it. -/
theorem DrainedTo.write {g : GatherBuf} {a i : Nat} {d d' : Memory} (hwf : Memory.wf d = true) (hi : i < 32)
    (hheld : g.held.getLsbD i = true)
    (h : DrainedTo g a (i + 1) (writeBytes d (a + i) (getBytes g.data i 1) 1) d') : DrainedTo g a i d d' := by
  obtain ⟨hlater, hother⟩ := h
  refine ⟨fun k hik hk hh => ?_, fun q hq => ?_⟩
  · obtain rfl | hlt := hik.eq_or_lt
    · have hbyte := byte_getBytes (x := g.data) (off := i) (n := 1) (k := 0) (by decide) (by decide) (by decide)
      rw [hother _ (fun j _ _ _ => by omega)]
      exact (readByte_writeBytes _ 1 (a + i) 0 hwf (by decide)).trans hbyte
    · exact hlater k hlt hk hh
  · rw [hother q fun k hik hk hh => hq k (by omega) hk hh]
    have hne := hq i (Nat.le_refl i) hi hheld
    exact readByte_writeBytes_other _ _ _ _ hwf (by omega)

/-- A full buffer is written as one block. -/
theorem drainedTo_block {g : GatherBuf} {a : Nat} {d : Memory} (hwf : Memory.wf d = true)
    (hfull : g.held = 0xFFFFFFFF) : DrainedTo g a 0 d (writeBytes d a g.data 32) := by
  have hones : (0xFFFFFFFF : BitVec 32) = BitVec.allOnes 32 := rfl
  have hall : ∀ k, k < 32 → g.held.getLsbD k = true := fun k hk => by
    rw [hfull, hones, BitVec.getLsbD_allOnes, decide_eq_true hk]
  refine ⟨fun k _ hk _ => readByte_writeBytes _ _ _ _ hwf hk, fun q hq => readByte_writeBytes_other _ _ _ _ hwf ?_⟩
  by_contra hin
  exact hq (q - a) (Nat.zero_le _) (by omega) (hall _ (by omega)) (by omega)

section
variable {x : MemCtx} {g : GatherBuf} {a : Nat} {m : MemSys}

/-- Byte by byte to DDR2. -/
theorem drainBytes_ddr {k : Nat} (hk : k ≤ 32) (hwf : Memory.wf m.ddr = true)
    (hroute : ∀ k, k < 32 → route m.chip (g.line ++ BitVec.ofNat 5 k : PAddr).toNat = .ok (.ddr (a + k)))
    (hready : m.chip.ddrReady = true) (hsize : a + 32 ≤ x.params.ddrSize) :
    ∃ d, drainBytes x g k m = .ok () { m with ddr := d } ∧ DrainedTo g a (32 - k) m.ddr d := by
  induction k generalizing m with
  | zero => exact ⟨m.ddr, rfl, drainedTo_refl g a m.ddr⟩
  | succ k ih =>
    have hnext : 32 - (k + 1) + 1 = 32 - k := by omega
    have hindex : 31 - k = 32 - (k + 1) := by omega
    unfold drainBytes
    rw [hindex]
    dsimp only
    split
    next hheld =>
      rw [busWrite_ddr _ (hroute _ (by omega)) hready (by omega)]
      obtain ⟨d, hd, hdrained⟩ := ih (m := { m with ddr := _ }) (by omega) (wf_writeBytes _ _ _ hwf) hroute hready
      rw [← hnext] at hdrained
      exact ⟨d, hd, hdrained.write hwf (by omega) hheld⟩
    next hheld =>
      obtain ⟨d, hd, hdrained⟩ := ih (by omega) hwf hroute hready
      rw [← hnext] at hdrained
      exact ⟨d, hd, hdrained.skip (Bool.eq_false_iff.2 hheld)⟩

/-- The buffer goes out to DDR2, in one block or byte by byte (R297). -/
theorem drainGather_ddr (hg : m.gather = some g) (hwf : Memory.wf m.ddr = true)
    (hroute : ∀ k, k < 32 → route m.chip (g.line ++ BitVec.ofNat 5 k : PAddr).toNat = .ok (.ddr (a + k)))
    (hready : m.chip.ddrReady = true) (hsize : a + 32 ≤ x.params.ddrSize) :
    ∃ d, drainGather x m = .ok () { m with gather := none, ddr := d } ∧ DrainedTo g a 0 m.ddr d := by
  unfold drainGather
  rw [hg]
  dsimp only
  split
  next hfull =>
    exact ⟨_, busWrite_ddr (m := { m with gather := none }) _ (hroute 0 (by decide)) hready hsize,
      drainedTo_block hwf hfull⟩
  next => exact drainBytes_ddr (m := { m with gather := none }) (Nat.le_refl 32) hwf hroute hready hsize

end

/-- SYNC leaves the memory system the drain leaves (40_load_store.md R434). -/
theorem exec_sync_drained {s : State} {m : MemSys} (h : drainGather s.ctx s.mem = .ok () m) :
    exec .sync s = .next (advance { s with mem := m }) := by
  change execSync s = _
  unfold execSync
  rw [h]
  rfl

/-- Settles O40: nothing to drain, any drain, and a drain to DDR2. -/
theorem syncDrains : Obligations.SyncDrains := by
  refine fun s => ⟨fun hg => does_advance (exec_sync_drained (drainGather_none hg)), fun m h => ?_,
    fun g a hg hwf hroute hready hsize => ?_⟩
  · have hempty := gather_drainGather s.ctx s.mem
    rw [h] at hempty
    exact ⟨_, exec_sync_drained h, rfl, hempty, onlyPc_advance s⟩
  · obtain ⟨d, hd, hheld, hother⟩ := drainGather_ddr (x := s.ctx) hg hwf hroute hready hsize
    exact ⟨_, exec_sync_drained hd, rfl, fun k hk => hheld k (Nat.zero_le k) hk,
      fun q hq => hother q fun k _ => hq k, ⟨rfl, rfl, rfl⟩, rfl⟩

end Sys2Proof.Machine
end

section
/-! SUPPORT. O21, O22, O23: the model computes on words where the claims speak of exact integers. Each lemma
carries one operation on words over to the integers its operands stand for (00_scope.md R24). -/

namespace Sys2Proof.Machine

/-! Words of a number. -/

/-- Bits [31:0] stand for the same integer modulo 2^32 (41_alu.md R451). -/
theorem lo32_eq_ofInt (x : Word) : lo32 x = BitVec.ofInt 32 x.toInt :=
  calc lo32 x
    _ = x.setWidth 32 := (BitVec.setWidth_eq_extractLsb' (by decide)).symm
    _ = x.signExtend 32 := (BitVec.signExtend_eq_setWidth_of_le x (by decide)).symm
    _ = BitVec.ofInt 32 x.toInt := rfl

theorem lo32_eq_ofNat (x : Word) : lo32 x = BitVec.ofNat 32 x.toNat := rfl

theorem ofInt_sub (w : Nat) (x y : Int) : BitVec.ofInt w (x - y) = BitVec.ofInt w x - BitVec.ofInt w y := by
  rw [Int.sub_eq_add_neg, BitVec.ofInt_add, BitVec.ofInt_neg, BitVec.sub_eq_add_neg]

/-- Sign extension keeps the integer, so a word of an integer that fits is that integer's word. -/
theorem sext32_ofInt {x : Int} (h : Fits 32 x) : sext32 (BitVec.ofInt 32 x) = BitVec.ofInt 64 x := by
  obtain ⟨hlo, hhi⟩ := h
  exact congrArg (BitVec.ofInt 64) (BitVec.toInt_ofInt_eq_self (by decide) hlo hhi)

/-- LUI's operand: the immediate times 2^16 (41_alu.md R464). -/
theorem sext32_upper (imm : Imm16) : sext32 (imm ++ (0 : BitVec 16)) = BitVec.ofInt 64 (imm.toInt * 2 ^ 16) := by
  have hint : (imm ++ (0 : BitVec 16)).toInt = imm.toInt * 2 ^ 16 := BitVec.toInt_append_zero.trans (Int.mul_comm _ _)
  exact congrArg (BitVec.ofInt 64) hint

theorem zext16_eq_append (imm : Imm16) : zext16 imm = (0 : BitVec 48) ++ imm :=
  BitVec.setWidth_eq_append (by decide)

/-! Comparisons. -/

theorem ofBit_decide (c : Prop) [Decidable c] : ofBit (decide c) = if c then 1 else 0 := by
  unfold ofBit
  simp

theorem ofBit_slt (x y : Word) : ofBit (x.slt y) = if x.toInt < y.toInt then 1 else 0 := by
  rw [BitVec.slt_eq_decide, ofBit_decide]

theorem ofBit_slt_sext16 (x : Word) (imm : Imm16) :
    ofBit (x.slt (sext16 imm)) = if x.toInt < imm.toInt then 1 else 0 := by
  rw [ofBit_slt, BitVec.toInt_signExtend_of_le (by decide)]

theorem ofBit_ult (x y : Word) : ofBit (x.ult y) = if x.toNat < y.toNat then 1 else 0 := by
  rw [BitVec.ult_eq_decide, ofBit_decide]

/-! Results that must fit. -/

theorem exact32_cases (x : Int) :
    (Fits 32 x ∧ exact32 x = some (BitVec.ofInt 64 x)) ∨ (¬Fits 32 x ∧ exact32 x = none) := by
  by_cases h : Fits 32 x
  · exact .inl ⟨h, (if_pos (by simpa [Fits] using h)).trans (congrArg some (sext32_ofInt h))⟩
  · exact .inr ⟨h, if_neg (by simpa [Fits] using h)⟩

theorem exact64_cases (x : Int) :
    (Fits 64 x ∧ exact64 x = some (BitVec.ofInt 64 x)) ∨ (¬Fits 64 x ∧ exact64 x = none) := by
  by_cases h : Fits 64 x
  · exact .inl ⟨h, if_pos (by simpa [Fits] using h)⟩
  · exact .inr ⟨h, if_neg (by simpa [Fits] using h)⟩

section
variable {i : Instr} {s : State} {r : Reg} {x : Int}

/-- A meaning that writes the result or takes Overflow, by whether the result is there (41_alu.md R452). -/
theorem sumOrOverflow_trapOverflow {o : Option Word} {w : Nat} (hi : exec i s = trapOverflow o r s)
    (ho : (Fits w x ∧ o = some (BitVec.ofInt 64 x)) ∨ (¬Fits w x ∧ o = none)) : SumOrOverflow i s w r x := by
  obtain ⟨hfits, rfl⟩ | ⟨hfits, rfl⟩ := ho
  · exact ⟨fun _ => does_writeNext hi rfl, fun hn => absurd hfits hn⟩
  · exact ⟨fun hf => absurd hf hfits, fun _ => hi⟩

theorem sumOrOverflow_exact32 (hi : exec i s = trapOverflow (exact32 x) r s) : SumOrOverflow i s 32 r x :=
  sumOrOverflow_trapOverflow hi (exact32_cases x)

theorem sumOrOverflow_exact64 (hi : exec i s = trapOverflow (exact64 x) r s) : SumOrOverflow i s 64 r x :=
  sumOrOverflow_trapOverflow hi (exact64_cases x)

end

/-- Settles O22: each of the six is the checked write of its exact sum or difference. -/
theorem overflowArithmetic : Obligations.OverflowArithmetic := fun _ _ _ _ _ =>
  ⟨sumOrOverflow_exact32 rfl, sumOrOverflow_exact32 rfl, sumOrOverflow_exact32 rfl,
    sumOrOverflow_exact64 rfl, sumOrOverflow_exact64 rfl, sumOrOverflow_exact64 rfl⟩

/-- Settles O21: each of the seven writes one register, with the word of the exact sum, difference or product. -/
theorem wrappingArithmetic : Obligations.WrappingArithmetic := by
  refine fun _ _ _ _ imm => ⟨does_writeNext rfl ?addu, does_writeNext rfl ?addiu, does_writeNext rfl ?subu,
    does_writeNext rfl ?daddu, does_writeNext rfl ?daddiu, does_writeNext rfl ?dsubu,
    does_writeNext rfl (sext32_upper imm)⟩
  case addu => rw [BitVec.ofNat_add, lo32_eq_ofNat, lo32_eq_ofNat]
  case addiu => rw [BitVec.ofInt_add, lo32_eq_ofInt]; rfl
  case subu => rw [ofInt_sub, lo32_eq_ofInt, lo32_eq_ofInt]
  case daddu => simp only [BitVec.ofNat_add, BitVec.ofNat_toNat, BitVec.setWidth_eq]
  case daddiu => rw [BitVec.ofInt_add, BitVec.ofInt_toInt]; rfl
  case dsubu => rw [ofInt_sub, BitVec.ofInt_toInt, BitVec.ofInt_toInt]

/-- Settles O23: logic and comparisons write one register; a conditional move writes one or only moves on. -/
theorem logicCompareMove : Obligations.LogicCompareMove := fun s rs _ _ imm =>
  ⟨does_writeNext rfl rfl, does_writeNext rfl rfl, does_writeNext rfl rfl, does_writeNext rfl BitVec.not_or,
    does_writeNext rfl (congrArg (s.reg rs &&& ·) (zext16_eq_append imm)),
    does_writeNext rfl (congrArg (s.reg rs ||| ·) (zext16_eq_append imm)),
    does_writeNext rfl (congrArg (s.reg rs ^^^ ·) (zext16_eq_append imm)),
    does_writeNext rfl (ofBit_slt _ _), does_writeNext rfl (ofBit_ult _ _),
    does_writeNext rfl (ofBit_slt_sext16 _ _), does_writeNext rfl (ofBit_ult _ _),
    fun hzero => ⟨does_writeNext (if_pos hzero) rfl, does_advance (if_pos hzero)⟩,
    fun hzero => ⟨does_advance (if_neg hzero), does_writeNext (if_neg hzero) rfl⟩⟩

end Sys2Proof.Machine
end

section
/-! SUPPORT. O25, O26, O27, O28: exact products and quotients of words, and the forms that leave them in HI and LO
or in one register (42_muldiv.md, 00_scope.md R25). -/

namespace Sys2Proof.Machine

/-! The low part of a word, and the parts of a product. -/

/-- The low `v` bits of an integer's word are the integer's word at width `v`. -/
theorem extractLsb'_zero_ofInt {v w : Nat} (h : v ≤ w) (x : Int) :
    (BitVec.ofInt w x).extractLsb' 0 v = BitVec.ofInt v x := by
  rw [← BitVec.setWidth_eq_extractLsb' h, ← BitVec.signExtend_eq_setWidth_of_le _ h]
  refine BitVec.eq_of_toInt_eq ?_
  rw [BitVec.toInt_signExtend_eq_toInt_bmod_of_le _ h, BitVec.toInt_ofInt, BitVec.toInt_ofInt,
    Int.bmod_bmod_of_dvd (Nat.pow_dvd_pow 2 h)]

theorem lo32_sext32 (x : BitVec 32) : lo32 (sext32 x) = x := by
  rw [lo32_eq_ofInt, BitVec.toInt_signExtend_of_le (by decide), BitVec.ofInt_toInt]

theorem append_mul32 (p : Int) : lo32 (mul32 p).1 ++ lo32 (mul32 p).2 = BitVec.ofInt 64 p := by
  unfold mul32
  rw [lo32_sext32, lo32_sext32]
  exact BitVec.extractLsb'_append_extractLsb'

theorem append_mul64 (p : Int) : (mul64 p).1 ++ (mul64 p).2 = BitVec.ofInt 128 p :=
  BitVec.extractLsb'_append_extractLsb'

theorem mul32_low (p : Int) : (mul32 p).2 = sext32 (BitVec.ofInt 32 p) :=
  congrArg sext32 (extractLsb'_zero_ofInt (by decide) p)

theorem mul64_low (p : Int) : (mul64 p).2 = BitVec.ofInt 64 p := extractLsb'_zero_ofInt (by decide) p

section
variable {v w : Nat} (a b : BitVec w)

/-- Twice the width holds every signed product. -/
theorem toInt_ofInt_mul (hw : 0 < w) (h : 2 * w ≤ v) :
    (BitVec.ofInt v (a.toInt * b.toInt)).toInt = a.toInt * b.toInt := by
  have hlo := BitVec.le_toInt_mul_toInt (x := a) (y := b)
  have hhi := BitVec.toInt_mul_toInt_le (x := a) (y := b)
  have hpow : (2 : Int) ^ (w * 2 - 2) < 2 ^ (v - 1) := pow_lt_pow_right₀ (by decide) (by omega)
  exact BitVec.toInt_ofInt_eq_self (by omega) (by omega) (by omega)

/-- Twice the width holds every unsigned product. -/
theorem toNat_ofInt_mul (h : 2 * w ≤ v) :
    (BitVec.ofInt v (a.toNat * b.toNat)).toNat = a.toNat * b.toNat := by
  have hlt : a.toNat * b.toNat < 2 ^ v :=
    BitVec.toNat_mul_toNat_lt.trans_le (Nat.pow_le_pow_right (by decide) (by omega))
  exact Nat.mod_eq_of_lt hlt

end

/-! Quotient and remainder. -/

theorem divides_tdiv_tmod {x y : Int} (hy : y ≠ 0) : Divides x y (x.tdiv y) (x.tmod y) := by
  refine ⟨(Int.tdiv_mul_add_tmod x y).symm, ?_, fun hx => Int.tmod_nonneg y hx, fun hx => ?_⟩
  · rw [Int.natAbs_tmod]
    exact Nat.mod_lt _ (Int.natAbs_pos.2 hy)
  · have hneg := Int.tmod_nonneg y (Int.neg_nonneg.2 hx)
    rw [Int.neg_tmod] at hneg
    omega

section
variable {w : Nat} {a b : BitVec w}

theorem ofInt_tdiv : BitVec.ofInt w (a.toInt.tdiv b.toInt) = a.sdiv b :=
  BitVec.eq_of_toInt_eq ((BitVec.toInt_ofInt _).trans (BitVec.toInt_sdiv a b).symm)

theorem ofInt_tmod : BitVec.ofInt w (a.toInt.tmod b.toInt) = a.srem b := by
  rw [← BitVec.toInt_srem, BitVec.ofInt_toInt]

theorem toInt_eq_neg_one (hw : 0 < w) : b.toInt = -1 ↔ b = -1#w := by
  rw [← BitVec.toInt_inj, BitVec.neg_one_eq_allOnes, BitVec.toInt_allOnes, if_pos hw]

/-- The signed division that fits: all but that of the most negative number by -1. -/
theorem divides_sdiv_srem (hw : 0 < w) (hb : b ≠ 0) (h : ¬(a = BitVec.intMin w ∧ b.toInt = -1)) :
    Divides a.toInt b.toInt (a.sdiv b).toInt (a.srem b).toInt := by
  rw [toInt_eq_neg_one hw, not_and_or] at h
  rw [BitVec.toInt_sdiv_of_ne_or_ne a b h, BitVec.toInt_srem]
  exact divides_tdiv_tmod fun h0 => hb (BitVec.eq_of_toInt_eq (h0.trans BitVec.toInt_zero.symm))

/-- The division that does not fit: the wrapped quotient is the dividend again (42_muldiv.md R503). -/
theorem sdiv_srem_overflow (hw : 0 < w) (ha : a = BitVec.intMin w) (hb : b.toInt = -1) :
    a.sdiv b = a ∧ a.srem b = 0 := by
  have hrem : (a.srem b).toInt = 0 := by rw [BitVec.toInt_srem, hb, Int.tmod_neg, Int.tmod_one]
  obtain rfl := (toInt_eq_neg_one hw).1 hb
  subst ha
  exact ⟨BitVec.intMin_sdiv_neg_one, BitVec.eq_of_toInt_eq (hrem.trans BitVec.toInt_zero.symm)⟩

theorem divides_udiv_umod (hb : b ≠ 0) : Divides a.toNat b.toNat (a / b).toNat (a % b).toNat := by
  rw [BitVec.toNat_udiv, BitVec.toNat_umod]
  exact divides_tdiv_tmod fun h0 => hb (BitVec.eq_of_toNat_eq (Int.ofNat_inj.1 h0))

end

/-- A remainder fits, so its word is its integer's. -/
theorem sext32_rem32 (a b : BitVec 32) : sext32 (rem32 a b) = BitVec.ofInt 64 (a.toInt.tmod b.toInt) := by
  rw [rem32, ofInt_tmod, ← BitVec.toInt_srem]
  rfl

section
variable {i : Instr} {s : State} {rd : Reg}

/-! A division into HI and LO. -/

section
variable {b q r : BitVec 32}

/-- A zero divisor draws words, another gives words: HI and LO are words either way (42_muldiv.md R502). -/
theorem isWord_div32 (s : State) (b q r : BitVec 32) : IsWord (div32 s b q r).1 ∧ IsWord (div32 s b q r).2 := by
  unfold div32
  split <;> exact ⟨isWord_sext32 _, isWord_sext32 _⟩

theorem does_div32_words (hi : exec i s = writeHiLo (div32 s b q r) s) :
    Does i s fun s t => OnlyHiLo t.hi t.lo s t ∧ IsWord t.hi ∧ IsWord t.lo :=
  ⟨_, hi, onlyHiLo_advance _ _ _, isWord_div32 s b q r⟩

theorem exec_div32_of_ne (hi : exec i s = writeHiLo (div32 s b q r) s) (hb : b ≠ 0) :
    exec i s = .next (advance { s with hi := sext32 r, lo := sext32 q }) :=
  hi.trans (congrArg (writeHiLo · s) (if_neg hb))

end

section
variable {b q r : Word}

theorem does_div64_some (hi : exec i s = writeHiLo (div64 s b q r) s) :
    Does i s fun s t => OnlyHiLo t.hi t.lo s t := ⟨_, hi, onlyHiLo_advance _ _ _⟩

theorem exec_div64_of_ne (hi : exec i s = writeHiLo (div64 s b q r) s) (hb : b ≠ 0) :
    exec i s = .next (advance { s with hi := r, lo := q }) :=
  hi.trans (congrArg (writeHiLo · s) (if_neg hb))

end

/-! A division into one register. -/

section
variable {b q : BitVec 32} {v : Word}

theorem does_single32_word (hi : exec i s = writeNext rd (single32 s b q) s) :
    Does i s fun s t => ∃ v, IsWord v ∧ OnlyGpr rd v s t := ⟨_, hi, _, isWord_sext32 _, onlyGpr_setReg s rd _⟩

theorem does_single32_of_ne (hi : exec i s = writeNext rd (single32 s b q) s) (hb : b ≠ 0) (hv : sext32 q = v) :
    Does i s (OnlyGpr rd v) := does_writeNext hi ((congrArg sext32 (if_neg hb)).trans hv)

end

section
variable {b q v : Word}

theorem does_single64_some (hi : exec i s = writeNext rd (single64 s b q) s) :
    Does i s fun s t => ∃ v, OnlyGpr rd v s t := ⟨_, hi, _, onlyGpr_setReg s rd _⟩

theorem does_single64_of_ne (hi : exec i s = writeNext rd (single64 s b q) s) (hb : b ≠ 0) (hv : q = v) :
    Does i s (OnlyGpr rd v) := does_writeNext hi ((if_neg hb).trans hv)

end

end

/-- Settles O25: the two halves joined are the product's word, which holds it. -/
theorem multiplyHiLo : Obligations.MultiplyHiLo := by
  refine ⟨fun s rs rt => ⟨⟨_, rfl, onlyHiLo_advance _ _ _, isWord_sext32 _, isWord_sext32 _, ?mult⟩,
    ⟨_, rfl, onlyHiLo_advance _ _ _, isWord_sext32 _, isWord_sext32 _, ?multu⟩,
    ⟨_, rfl, onlyHiLo_advance _ _ _, ?dmult⟩, ⟨_, rfl, onlyHiLo_advance _ _ _, ?dmultu⟩⟩,
    fun s r => ⟨does_writeNext rfl rfl, does_writeNext rfl rfl,
      ⟨_, rfl, onlyHiLo_advance s (s.reg r) s.lo⟩, ⟨_, rfl, onlyHiLo_advance s s.hi (s.reg r)⟩⟩⟩
  case mult => exact (congrArg BitVec.toInt (append_mul32 _)).trans (toInt_ofInt_mul _ _ (by decide) (by decide))
  case multu => exact (congrArg BitVec.toNat (append_mul32 _)).trans (toNat_ofInt_mul _ _ (by decide))
  case dmult => exact (congrArg BitVec.toInt (append_mul64 _)).trans (toInt_ofInt_mul _ _ (by decide) (by decide))
  case dmultu => exact (congrArg BitVec.toNat (append_mul64 _)).trans (toNat_ofInt_mul _ _ (by decide))

/-- Settles O26: quotient and remainder of the words, and the one signed division that does not fit. -/
theorem divideHiLo : Obligations.DivideHiLo := by
  refine fun s rs rt =>
    ⟨fun hy => ⟨_, exec_div32_of_ne rfl hy, onlyHiLo_advance _ _ _, isWord_sext32 _, isWord_sext32 _, ?div⟩,
    fun hy => ⟨_, exec_div32_of_ne rfl hy, onlyHiLo_advance _ _ _, isWord_sext32 _, isWord_sext32 _, ?divu⟩,
    fun hy => ⟨_, exec_div64_of_ne rfl hy, onlyHiLo_advance _ _ _, ?ddiv⟩,
    fun hy => ⟨_, exec_div64_of_ne rfl hy, onlyHiLo_advance _ _ _, divides_udiv_umod hy⟩⟩
  case div =>
    simp only [advance_hi, advance_lo, quot32, rem32, ofInt_tdiv, ofInt_tmod]
    split
    next h =>
      obtain ⟨hmin, hneg⟩ := h
      obtain ⟨hquot, hrem⟩ := sdiv_srem_overflow (by decide) hmin hneg
      rw [hquot, hrem]
      exact ⟨rfl, rfl⟩
    next h =>
      rw [BitVec.toInt_signExtend_of_le (by decide), BitVec.toInt_signExtend_of_le (by decide)]
      exact divides_sdiv_srem (by decide) hy h
  case divu =>
    simp only [advance_hi, advance_lo, lo32_sext32]
    exact divides_udiv_umod hy
  case ddiv =>
    simp only [advance_hi, advance_lo, quot64, rem64, ofInt_tdiv, ofInt_tmod]
    split
    next h =>
      obtain ⟨hmin, hneg⟩ := h
      exact sdiv_srem_overflow (by decide) hmin hneg
    next h => exact divides_sdiv_srem (by decide) hy h

/-- Settles O28: each writes the low part of the exact product, or its quotient or remainder. -/
theorem godsonMultiplyDivide : Obligations.GodsonMultiplyDivide := fun _ _ _ _ =>
  ⟨does_writeNext rfl (mul32_low _), does_writeNext rfl (mul32_low _),
    does_writeNext rfl (mul64_low _), does_writeNext rfl (mul64_low _),
    fun hb => ⟨does_single32_of_ne rfl hb rfl, does_single32_of_ne rfl hb (sext32_rem32 _ _),
      does_single32_of_ne rfl hb (congrArg sext32 BitVec.udiv_def),
      does_single32_of_ne rfl hb (congrArg sext32 BitVec.umod_def)⟩,
    fun hy => ⟨does_single64_of_ne rfl hy rfl, does_single64_of_ne rfl hy rfl,
      does_single64_of_ne rfl hy BitVec.udiv_def, does_single64_of_ne rfl hy BitVec.umod_def⟩⟩

/-- Settles O27: for any divisor each form writes its results only, and the 32-bit forms sign-extend them. -/
theorem divideByZero : Obligations.DivideByZero := by
  refine fun s rs rt rd => ⟨fun _ => ?_, fun _ => ?_⟩ <;>
    simp only [List.forall_mem_cons, List.not_mem_nil, false_imp_iff, implies_true, and_true]
  · exact ⟨⟨does_div32_words rfl, does_div32_words rfl⟩, does_single32_word rfl, does_single32_word rfl,
      does_single32_word rfl, does_single32_word rfl⟩
  · exact ⟨⟨does_div64_some rfl, does_div64_some rfl⟩, does_single64_some rfl, does_single64_some rfl,
      does_single64_some rfl, does_single64_some rfl⟩

end Sys2Proof.Machine
end

section
/-! SUPPORT. O29, O30, O31: outside a delay slot `branch` completes, in one it stops; the targets and the
conditions of 43_branch_jump.md as the claims write them. -/

namespace Sys2Proof.Machine

/-! Targets and conditions. -/

/-- The offset field counts words, as an integer (43_branch_jump.md R552). -/
theorem branchTarget_eq (s : State) (imm : Imm16) :
    branchTarget s imm = s.pc + 4 + BitVec.ofInt 64 (4 * imm.toInt) := by
  have hoffset : sext16 imm <<< 2 = BitVec.ofInt 64 (4 * imm.toInt) := by
    rw [BitVec.shiftLeft_eq_mul_twoPow, BitVec.ofInt_mul, BitVec.mul_comm]
    rfl
  exact congrArg (s.pc + 4 + ·) hoffset

theorem bne_eq_decide (x y : Word) : (x != y) = decide (x ≠ y) := (decide_not ..).symm

theorem not_msb_eq_decide (x : Word) : (!x.msb) = decide (0 ≤ x.toInt) :=
  BitVec.zero_sle_eq_not_msb.symm.trans BitVec.sle_eq_decide

/-! `branch` outside a delay slot and in one. -/

section
variable {i : Instr} {s s₁ : State} {taken taken' likely : Bool} {target target' : Word}

theorem branch_branchesTo (h : s.inSlot = false) :
    ∃ t, branch taken false target s = .next t ∧ BranchesTo taken target s t := by
  cases taken <;> simp [branch, BranchesTo, h]

theorem branch_likelyTo (h : s.inSlot = false) :
    ∃ t, branch taken true target s = .next t ∧ LikelyTo taken target s t := by
  cases taken <;> simp [branch, LikelyTo, h]

/-- A meaning that branches from `s₁`, the state before it or that state linked (43_branch_jump.md R550). -/
theorem does_branch (hi : exec i s = branch taken false target s₁) (h : s₁.inSlot = false)
    (ht : taken = taken') (ha : target = target') : Does i s fun _ => BranchesTo taken' target' s₁ := by
  subst ht ha
  obtain ⟨t, hnext, hto⟩ := branch_branchesTo h
  exact ⟨t, hi.trans hnext, hto⟩

/-- The same for a likely branch (43_branch_jump.md R551). -/
theorem does_likely (hi : exec i s = branch taken true target s₁) (h : s₁.inSlot = false)
    (ht : taken = taken') (ha : target = target') : Does i s fun _ => LikelyTo taken' target' s₁ := by
  subst ht ha
  obtain ⟨t, hnext, hto⟩ := branch_likelyTo h
  exact ⟨t, hi.trans hnext, hto⟩

/-- A meaning that branches stops in a delay slot, linked or not (43_branch_jump.md R555). -/
theorem exec_branch_inSlot (hi : exec i s = branch taken likely target s₁) (hs : s₁.inSlot = s.inSlot)
    (h : s.inSlot = true) : exec i s = .fault .branchInDelaySlot :=
  hi.trans (if_pos (hs.trans h))

end

/-- Settles O29: each of the twelve is `branch` from the state itself, its condition one of six on words. -/
theorem conditionalBranches : Obligations.ConditionalBranches := fun s _ _ imm h =>
  have ha := branchTarget_eq s imm
  ⟨does_branch rfl h rfl ha, does_branch rfl h (bne_eq_decide _ _) ha,
    does_branch rfl h BitVec.sle_eq_decide ha, does_branch rfl h BitVec.slt_eq_decide ha,
    does_branch rfl h BitVec.msb_eq_toInt ha, does_branch rfl h (not_msb_eq_decide _) ha,
    does_likely rfl h rfl ha, does_likely rfl h (bne_eq_decide _ _) ha,
    does_likely rfl h BitVec.sle_eq_decide ha, does_likely rfl h BitVec.slt_eq_decide ha,
    does_likely rfl h BitVec.msb_eq_toInt ha, does_likely rfl h (not_msb_eq_decide _) ha⟩

/-- Settles O30: each is `branch` from the state itself or from it linked, with `rs` read before the link. -/
theorem jumpsAndLinks : Obligations.JumpsAndLinks := fun s rs rd _ imm h =>
  have ha := branchTarget_eq s imm
  have hneg : (s.reg rs).msb = decide ((s.reg rs).toInt < 0) := BitVec.msb_eq_toInt
  ⟨does_branch rfl h rfl rfl, does_branch rfl h rfl rfl, does_branch rfl h rfl rfl,
    does_branch rfl ((link_inSlot s rd).trans h) rfl rfl,
    does_branch rfl h hneg ha, does_branch rfl h (congrArg not hneg) ha,
    does_likely rfl h hneg ha, does_likely rfl h (congrArg not hneg) ha⟩

/-- Settles O31: where its unit is usable each is `branch`, ERET its own check, and both stop in a slot. -/
theorem branchInSlotStops : Obligations.BranchInSlotStops := by
  refine fun s rs rt rd imm target h => ⟨?_, fun hcp1 => ?_, fun hcp0 => (if_pos hcp0).trans (if_pos h)⟩
  · simp only [← List.forall_iff_forall_mem, List.Forall]
    repeat' apply And.intro
    all_goals exact exec_branch_inSlot rfl (by simp only [link_inSlot]) h
  · simp only [← List.forall_iff_forall_mem, List.Forall]
    repeat' apply And.intro
    all_goals exact exec_branch_inSlot (if_pos hcp1) rfl h

end Sys2Proof.Machine
end

section
/-! SUPPORT. O3: a word decodes to the instruction it is the encoding of. -/

namespace Sys2Proof

theorem decode_eq_of_encode_eq {i : Instr} {w : BitVec 32} (h : encode i = w) : decode w = .ok i :=
  h ▸ decode_encode i

/-- Settles O3: each word is what its instruction encodes to. -/
theorem specWordsDecode : Obligations.SpecWordsDecode :=
  ⟨decode_eq_of_encode_eq rfl, decode_eq_of_encode_eq rfl, decode_eq_of_encode_eq rfl,
    decode_eq_of_encode_eq rfl, decode_eq_of_encode_eq rfl, decode_eq_of_encode_eq rfl,
    decode_eq_of_encode_eq rfl, decode_eq_of_encode_eq rfl, decode_eq_of_encode_eq rfl⟩

end Sys2Proof
end

section
/-! SUPPORT. O24: a shift of a word is arithmetic by a power of two on the number the word stands for, and a
variable count is a remainder (44_shift.md R600). -/

namespace Sys2Proof.Machine

theorem count5_eq (x : Word) : count5 x = x.toNat % 32 := BitVec.extractLsb'_toNat 0 5 x

theorem count6_eq (x : Word) : count6 x = x.toNat % 64 := BitVec.extractLsb'_toNat 0 6 x

/-! Each shift takes its count in the model's form `c` and answers in the claim's form `k`. -/

section
variable {w c k : Nat} (x : BitVec w) (hc : c = k)
include hc

theorem shiftLeft_eq_ofNat_mul : x <<< c = BitVec.ofNat w (x.toNat * 2 ^ k) := by
  rw [hc, ← Nat.shiftLeft_eq]
  rfl

theorem ushiftRight_eq_ofNat_div : x >>> c = BitVec.ofNat w (x.toNat / 2 ^ k) := by
  rw [← hc, ← Nat.shiftRight_eq_div_pow, ← BitVec.toNat_ushiftRight, BitVec.ofNat_toNat, BitVec.setWidth_eq]

/-- The integer quotient rounds down. -/
theorem toInt_sshiftRight_eq_div : (x.sshiftRight c).toInt = x.toInt / 2 ^ k := by
  rw [BitVec.toInt_sshiftRight, hc, Int.shiftRight_eq_div_pow, Int.natCast_pow]
  rfl

theorem sshiftRight_eq_ofInt_div : x.sshiftRight c = BitVec.ofInt w (x.toInt / 2 ^ k) := by
  rw [← toInt_sshiftRight_eq_div x hc, BitVec.ofInt_toInt]

end

section
variable (x : BitVec 32) {c k : Nat} (hc : c = k)
include hc

/-! The results of the 32-bit shifts are sign-extended (44_shift.md R601). -/

theorem sext32_shiftLeft : sext32 (x <<< c) = sext32 (BitVec.ofNat 32 (x.toNat * 2 ^ k)) :=
  congrArg sext32 (shiftLeft_eq_ofNat_mul x hc)

theorem sext32_ushiftRight : sext32 (x >>> c) = sext32 (BitVec.ofNat 32 (x.toNat / 2 ^ k)) :=
  congrArg sext32 (ushiftRight_eq_ofNat_div x hc)

/-- The quotient fits, so its word is its integer's. -/
theorem sext32_sshiftRight : sext32 (x.sshiftRight c) = BitVec.ofInt 64 (x.toInt / 2 ^ k) :=
  congrArg (BitVec.ofInt 64) (toInt_sshiftRight_eq_div x hc)

end

/-- Settles O24: each of the fifteen writes one shifted word; its count is `sa`, `sa + 32` or low bits of `rs`. -/
theorem shifts : Obligations.Shifts := fun s rs _ _ _ =>
  have h5 := count5_eq (s.reg rs)
  have h6 := count6_eq (s.reg rs)
  ⟨does_writeNext rfl (sext32_shiftLeft _ rfl), does_writeNext rfl (sext32_ushiftRight _ rfl),
    does_writeNext rfl (sext32_sshiftRight _ rfl),
    does_writeNext rfl (sext32_shiftLeft _ h5), does_writeNext rfl (sext32_ushiftRight _ h5),
    does_writeNext rfl (sext32_sshiftRight _ h5),
    does_writeNext rfl (shiftLeft_eq_ofNat_mul _ rfl), does_writeNext rfl (ushiftRight_eq_ofNat_div _ rfl),
    does_writeNext rfl (sshiftRight_eq_ofInt_div _ rfl),
    does_writeNext rfl (shiftLeft_eq_ofNat_mul _ rfl), does_writeNext rfl (ushiftRight_eq_ofNat_div _ rfl),
    does_writeNext rfl (sshiftRight_eq_ofInt_div _ rfl),
    does_writeNext rfl (shiftLeft_eq_ofNat_mul _ h6), does_writeNext rfl (ushiftRight_eq_ofNat_div _ h6),
    does_writeNext rfl (sshiftRight_eq_ofInt_div _ h6)⟩

end Sys2Proof.Machine
end

section
/-! SUPPORT. O32: `trapIf` takes Trap or goes on by its condition, and what the conditions of 45_special_trap.md
say of integers and naturals. -/

namespace Sys2Proof.Machine

/-- A conditional trap on `c` is the claim for every statement `p` of that condition (45_special_trap.md R633). -/
theorem trapsWhen_of_trapIf {i : Instr} {s : State} {c : Bool} {p : Prop} (hi : exec i s = trapIf c s)
    (hc : c = true ↔ p) : TrapsWhen i s p :=
  ⟨fun hp => hi.trans (if_pos (hc.2 hp)), fun hp => does_advance (hi.trans (if_neg (mt hc.1 hp)))⟩

section
variable (x : Word) {y : Word} {n : Int} (hy : y.toInt = n)
include hy

/-! The signed conditions against an operand that stands for the integer `n`: a register, or the immediate. -/

theorem not_slt_iff_of_toInt : (!x.slt y) = true ↔ n ≤ x.toInt := by
  rw [← BitVec.sle_eq_not_slt, BitVec.sle_iff_toInt_le, hy]

theorem slt_iff_of_toInt : x.slt y = true ↔ x.toInt < n := by
  rw [BitVec.slt_iff_toInt_lt, hy]

theorem beq_iff_of_toInt : (x == y) = true ↔ x.toInt = n := by
  rw [beq_iff_eq, ← BitVec.toInt_inj, hy]

theorem bne_iff_of_toInt : (x != y) = true ↔ x.toInt ≠ n := by
  rw [bne_iff_ne, ← hy, BitVec.toInt_ne]

end

theorem not_ult_iff_toNat_le (x y : Word) : (!x.ult y) = true ↔ y.toNat ≤ x.toNat := by
  rw [← BitVec.ule_eq_not_ult, BitVec.ule_iff_toNat_le]

/-- Settles O32: SYSCALL and BREAK raise at once; each of the twelve traps is `trapIf` on one comparison. -/
theorem callsAndTraps : Obligations.CallsAndTraps := by
  refine ⟨fun _ _ => ⟨rfl, rfl⟩, fun s rs rt _ imm => ?_⟩
  have himm : (sext16 imm).toInt = imm.toInt := BitVec.toInt_signExtend_of_le (by decide)
  exact ⟨trapsWhen_of_trapIf rfl (not_slt_iff_of_toInt _ rfl), trapsWhen_of_trapIf rfl (not_ult_iff_toNat_le _ _),
    trapsWhen_of_trapIf rfl (slt_iff_of_toInt _ rfl), trapsWhen_of_trapIf rfl BitVec.ult_iff_toNat_lt,
    trapsWhen_of_trapIf rfl beq_iff_eq, trapsWhen_of_trapIf rfl bne_iff_ne,
    trapsWhen_of_trapIf rfl (not_slt_iff_of_toInt _ himm), trapsWhen_of_trapIf rfl (not_ult_iff_toNat_le _ _),
    trapsWhen_of_trapIf rfl (slt_iff_of_toInt _ himm), trapsWhen_of_trapIf rfl BitVec.ult_iff_toNat_lt,
    trapsWhen_of_trapIf rfl (beq_iff_of_toInt _ himm), trapsWhen_of_trapIf rfl (bne_iff_of_toInt _ himm)⟩

end Sys2Proof.Machine
end

section
/-! SUPPORT. Where CP0 is usable a meaning that CP0 guards is what it guards (11_cp0_registers.md R150). -/

namespace Sys2Proof.Machine

theorem withCp0_of_usable {s : State} {x : Res} (h : s.cp0Usable = true) : withCp0 s x = x := if_pos h

end Sys2Proof.Machine
end

section
/-! SUPPORT. O20: a return from an exception, by the level it returns from. -/

namespace Sys2Proof.Machine

theorem setBit_false {w : Nat} (x : BitVec w) (i : Nat) : setBit x i false = x &&& ~~~(BitVec.twoPow w i) := by
  simp [setBit, merge]

theorem exec_eret {s : State} (hu : s.cp0Usable = true) (hs : s.inSlot = false) :
    exec .eret s = .next (returnFromException s) :=
  (withCp0_of_usable hu).trans (if_neg (by simp [hs]))

/-- Settles O20, by the level ERET returns from: ERL before EXL. -/
theorem eretReturns : Obligations.EretReturns := by
  intro s hu hs
  rw [exec_eret hu hs, returnFromException]
  cases herl : s.erl
  case true => simp [setBit_false, BitVec.twoPow_eq]
  case false => simp [setBit_false, BitVec.twoPow_eq]

end Sys2Proof.Machine
end

section
/-! SUPPORT. O46: what a move to a CP0 register other than Diagnostic does is the register's own write; a move to
Diagnostic may also empty the ITLB, or be refused (11_cp0_registers.md R150, R212, R213). -/

namespace Sys2Proof.Machine

/-- CP0 takes `c`; everything else stays. -/
def OnlyCp0 (c : Cp0) (s t : State) : Prop := t.cp0 = c ∧ OnlyPc s { t with cp0 := s.cp0 }

theorem onlyCp0_advance (s : State) (c : Cp0) : OnlyCp0 c s (advance { s with cp0 := c }) :=
  ⟨rfl, ⟨rfl, rfl, rfl⟩, rfl⟩

section
variable {s : State} {n rt rd : Reg} {i : Instr} {x : Word}

theorem moveToCp0_of_ne (hn : n ≠ 22) :
    moveToCp0 n x s = .next (advance { s with cp0 := writeCp0 s.params s.cp0 n x }) := by
  simp only [moveToCp0, State.cp0Write, if_neg hn]

theorem readCp0_allowed {r : Res} (h : s.cp0Usable = true ∨ n = 24 ∨ n = 25) : readCp0 n s r = r := by
  unfold readCp0
  split
  · rfl
  · rename_i hn
    exact withCp0_of_usable (h.resolve_right (by simpa using hn))

theorem does_mfc0 (h : s.cp0Usable = true ∨ rd = 24 ∨ rd = 25) :
    Does (.mfc0 rt rd) s (OnlyGpr rt (sext32 (lo32 (s.cp0Read rd)))) :=
  does_writeNext (readCp0_allowed h) rfl

theorem does_dmfc0 (h : s.cp0Usable = true ∨ rd = 24 ∨ rd = 25) :
    Does (.dmfc0 rt rd) s (OnlyGpr rt (s.cp0Read rd)) :=
  does_writeNext (readCp0_allowed h) rfl

/-- A move to any register but Diagnostic completes with that register's write. -/
theorem does_moveToCp0 (hi : exec i s = withCp0 s (moveToCp0 n x s)) (hu : s.cp0Usable = true) (hn : n ≠ 22) :
    Does i s (OnlyCp0 (writeCp0 s.params s.cp0 n x)) :=
  ⟨_, (hi.trans (withCp0_of_usable hu)).trans (moveToCp0_of_ne hn), onlyCp0_advance _ _⟩

theorem does_onlyPc_of_onlyCp0 {c : Cp0} (h : Does i s (OnlyCp0 c)) :
    Does i s fun s t => OnlyPc s { t with cp0 := s.cp0 } := by
  obtain ⟨t, ht, -, hrest⟩ := h
  exact ⟨t, ht, hrest⟩

/-- MTC0 and DMTC0 of a register whose write is `c`, at the words the two can write. -/
theorem does_movesToCp0 (hu : s.cp0Usable = true) (hn : n ≠ 22) {c : Word → Cp0}
    (hc : ∀ x, lo32 x = lo32 (s.reg rt) → writeCp0 s.params s.cp0 n x = c x) :
    Does (.mtc0 rt n) s (OnlyCp0 (c (sext32 (lo32 (s.reg rt)))))
      ∧ Does (.dmtc0 rt n) s (OnlyCp0 (c (s.reg rt))) := by
  rw [← hc _ (lo32_sext32 _), ← hc _ rfl]
  exact ⟨does_moveToCp0 rfl hu hn, does_moveToCp0 rfl hu hn⟩

/-- A write of Count that does not meet Compare leaves the timer latch (R171). -/
theorem writeCp0_count {p : ChipParams} {c : Cp0} (h : lo32 x ≠ c.compare) :
    writeCp0 p c 9 x = { c with count := lo32 x } := by
  have hne : (lo32 x == c.compare) = false := beq_eq_false_iff_ne.2 h
  simp [writeCp0, hne]

/-- A write that the register ignores (R151, R156). -/
theorem writeCp0_ignored (p : ChipParams) (c : Cp0) (x : Word) :
    ∀ n ∈ ([1, 7, 8, 15, 17, 19, 21, 23, 26, 27, 31] : List Reg), n ≠ 22 ∧ writeCp0 p c n x = c := by
  intro n hn
  simp only [List.mem_cons, List.not_mem_nil, or_false] at hn
  rcases hn with rfl | rfl | rfl | rfl | rfl | rfl | rfl | rfl | rfl | rfl | rfl <;> exact ⟨by decide, rfl⟩

theorem does_ignoredMove (hi : exec i s = withCp0 s (moveToCp0 n x s)) (hu : s.cp0Usable = true)
    (hn : n ∈ ([1, 7, 8, 15, 17, 19, 21, 23, 26, 27, 31] : List Reg)) : Does i s OnlyPc := by
  obtain ⟨hne, hw⟩ := writeCp0_ignored s.params s.cp0 x n hn
  have hmove := (hi.trans (withCp0_of_usable hu)).trans (moveToCp0_of_ne hne)
  rw [hw] at hmove
  exact does_advance hmove

/-- A move to Diagnostic: refused where a serialisation bit is written, else RAS and U-Mode are stored and ITLB
empties the ITLB (R212, R213). -/
theorem does_moveToDiag (hi : exec i s = withCp0 s (moveToCp0 22 x s)) (hu : s.cp0Usable = true) :
    (x &&& diagRefused s.params = 0 → Does i s fun s t => t.cp0 = { s.cp0 with diag := x &&& diagMask s.params }
        ∧ t.itlb = (if x.getLsbD s.params.diagItlb then [] else s.itlb)
        ∧ OnlyPc s { t with cp0 := s.cp0, itlb := s.itlb })
      ∧ (x &&& diagRefused s.params ≠ 0 → exec i s = .refused .diagnosticSerialisation) := by
  rw [withCp0_of_usable hu] at hi
  constructor
  · intro hx
    refine ⟨advance { s with cp0 := { s.cp0 with diag := x &&& diagMask s.params }
                             itlb := if x.getLsbD s.params.diagItlb then [] else s.itlb },
      hi.trans ?_, rfl, rfl, ⟨rfl, rfl, rfl⟩, rfl⟩
    simp only [moveToCp0, State.cp0Write, hx]
    cases x.getLsbD s.params.diagItlb <;> rfl
  · intro hx
    have hrefused : (x &&& diagRefused s.params != 0) = true := bne_iff_ne.2 hx
    rw [hi]
    simp only [moveToCp0, State.cp0Write, hrefused, if_true]

end

/-- Settles O46: each number's read and write, the moves through them. -/
theorem cp0Moves : Obligations.Cp0Moves := by
  refine ⟨fun s => ?_, fun s rt rd => ⟨fun h => ⟨does_mfc0 h, does_dmfc0 h⟩, fun hu => ?_⟩⟩
  · have hzero (x : BitVec 6) : x.setWidth 64 = (0 : BitVec 58) ++ x := BitVec.setWidth_eq_append (by decide)
    refine ⟨rfl, hzero _, rfl, rfl, rfl, rfl, hzero _, rfl, rfl, rfl, rfl, rfl, rfl, rfl, rfl, rfl, rfl, rfl, rfl,
      rfl, rfl, rfl, rfl, rfl, ?_⟩
    simp only [← List.forall_iff_forall_mem, List.Forall]
    exact ⟨rfl, rfl, rfl, rfl, rfl, rfl, rfl⟩
  · have put {n : Reg} (hn : n ≠ 22) {c : Word → Cp0} (hc : ∀ x, writeCp0 s.params s.cp0 n x = c x) :=
      does_movesToCp0 (rt := rt) hu hn fun x _ => hc x
    refine ⟨put (by decide) fun _ => rfl, put (by decide) fun _ => rfl, put (by decide) fun _ => rfl,
      put (by decide) fun _ => rfl, put (by decide) fun _ => rfl, put (by decide) fun _ => rfl,
      put (by decide) fun _ => rfl, put (by decide) fun _ => rfl, put (by decide) fun _ => rfl,
      put (by decide) fun _ => rfl, put (by decide) fun _ => rfl, put (by decide) fun _ => rfl,
      put (by decide) fun _ => rfl, put (by decide) fun _ => rfl, put (by decide) fun _ => rfl,
      put (by decide) fun _ => rfl, put (by decide) fun _ => rfl, put (by decide) fun _ => rfl,
      put (by decide) fun _ => rfl, fun hcount => ?_, does_moveToDiag rfl hu, does_moveToDiag rfl hu,
      fun n hn => ⟨does_ignoredMove rfl hu hn, does_ignoredMove rfl hu hn⟩, fun hrd => ⟨?_, ?_⟩⟩
    · exact does_movesToCp0 hu (by decide) fun x hx => writeCp0_count (hx.symm ▸ hcount)
    · exact does_onlyPc_of_onlyCp0 (does_moveToCp0 rfl hu hrd)
    · exact does_onlyPc_of_onlyCp0 (does_moveToCp0 rfl hu hrd)

end Sys2Proof.Machine
end

section
/-! SUPPORT. O47: the entry the CP0 registers describe, when it may be written, and the registers an entry read
gives back (46_cp0_privileged.md R669 to R672). -/

namespace Sys2Proof.Machine

/-! EntryLo and pages. -/

theorem getLsbD_setBit {w : Nat} (x : BitVec w) (i : Nat) (b : Bool) (j : Nat) :
    (setBit x i b).getLsbD j = if i < w ∧ j = i then b else x.getLsbD j := by
  by_cases hj : i < w ∧ j = i
  · obtain ⟨hi, rfl⟩ := hj
    cases b <;> simp [setBit, getLsbD_merge, hi, -BitVec.getLsbD_eq_getElem]
  · have hbit : (BitVec.twoPow w i).getLsbD j = false := by
      rw [BitVec.getLsbD_twoPow]
      grind
    rw [setBit, getLsbD_merge, hbit, if_neg hj, if_neg Bool.false_ne_true]

/-- The fields of an EntryLo register, E apart (11_cp0_registers.md R157). -/
theorem getLsbD_loOfPage {p : ChipParams} (g : Bool) (x : TlbPage) {j : Nat} (hj : j < 34) :
    (loOfPage p g x).getLsbD j
      = (x.pfn ++ x.c ++ BitVec.ofBool x.d ++ BitVec.ofBool x.v ++ BitVec.ofBool g).getLsbD j := by
  have hne : j ≠ p.entryLoEBit := by have := p.entryLoEBit_ok; omega
  have h64 : j < 64 := by omega
  rw [loOfPage, getLsbD_setBit, if_neg fun h => hne h.2, BitVec.getLsbD_setWidth, decide_eq_true h64, Bool.true_and]

theorem extractLsb'_loOfPage {p : ChipParams} (g : Bool) (x : TlbPage) {j n : Nat} (hj : j + n ≤ 34) :
    (loOfPage p g x).extractLsb' j n
      = (x.pfn ++ x.c ++ BitVec.ofBool x.d ++ BitVec.ofBool x.v ++ BitVec.ofBool g).extractLsb' j n := by
  apply BitVec.eq_of_getLsbD_eq
  intro i hi
  rw [BitVec.getLsbD_extractLsb', BitVec.getLsbD_extractLsb', getLsbD_loOfPage g x (by omega)]

theorem global_loOfPage (p : ChipParams) (g : Bool) (x : TlbPage) : (loOfPage p g x).getLsbD 0 = g := by
  rw [getLsbD_loOfPage g x (by decide)]
  simp only [BitVec.getLsbD_append]
  grind

/-- A page written into EntryLo reads back (R670, R671). -/
theorem pageOfLo_loOfPage (p : ChipParams) (g : Bool) (x : TlbPage) : pageOfLo p (loOfPage p g x) = x := by
  have hE : p.entryLoEBit < 64 := by have := p.entryLoEBit_ok; omega
  have hpfn : (loOfPage p g x).extractLsb' 6 28 = x.pfn := by
    rw [extractLsb'_loOfPage g x (by decide), BitVec.extractLsb'_append_eq_of_le (by decide),
      BitVec.extractLsb'_append_eq_of_le (by decide), BitVec.extractLsb'_append_eq_of_le (by decide)]
    exact BitVec.extractLsb'_append_eq_left
  have hc : (loOfPage p g x).extractLsb' 3 3 = x.c := by
    rw [extractLsb'_loOfPage g x (by decide), BitVec.extractLsb'_append_eq_of_le (by decide),
      BitVec.extractLsb'_append_eq_of_le (by decide), BitVec.extractLsb'_append_eq_of_le (by decide)]
    exact BitVec.extractLsb'_append_eq_right
  have hd : (loOfPage p g x).getLsbD 2 = x.d := by
    rw [getLsbD_loOfPage g x (by decide)]
    simp only [BitVec.getLsbD_append]
    grind
  have hv : (loOfPage p g x).getLsbD 1 = x.v := by
    rw [getLsbD_loOfPage g x (by decide)]
    simp only [BitVec.getLsbD_append]
    grind
  have he : (loOfPage p g x).getLsbD p.entryLoEBit = x.e := by
    rw [loOfPage, getLsbD_setBit, if_pos ⟨hE, rfl⟩]
  rw [pageOfLo, hpfn, hc, hd, hv, he]

/-! PageMask and EntryHi. -/

/-- PageMask keeps an entry's mask (R163). -/
theorem pageMask_field (mask : BitVec 12) : ((mask ++ (0 : BitVec 13)).setWidth 32).extractLsb' 13 12 = mask := by
  apply BitVec.eq_of_getLsbD_eq
  intro i hi
  simp only [BitVec.getLsbD_extractLsb', BitVec.getLsbD_setWidth, BitVec.getLsbD_append]
  grind

/-- EntryHi keeps an entry's R, VPN2 and ASID (R174). -/
theorem entryHi_fields (r : BitVec 2) (vpn2 : BitVec 27) (asid : BitVec 8) :
    let hi : Word := r ++ (0 : BitVec 22) ++ vpn2 ++ (0 : BitVec 5) ++ asid
    hi.extractLsb' 62 2 = r ∧ hi.extractLsb' 13 27 = vpn2 ∧ hi.extractLsb' 0 8 = asid := by
  refine ⟨?_, ?_, BitVec.extractLsb'_append_eq_right⟩
  · rw [BitVec.extractLsb'_append_eq_of_le (by decide), BitVec.extractLsb'_append_eq_of_le (by decide),
      BitVec.extractLsb'_append_eq_of_le (by decide)]
    exact BitVec.extractLsb'_append_eq_left
  · rw [BitVec.extractLsb'_append_eq_of_le (by decide), BitVec.extractLsb'_append_eq_of_le (by decide)]
    exact BitVec.extractLsb'_append_eq_right

/-- The entry Index names. -/
def State.indexed (s : State) : TlbEntry :=
  s.tlb[(s.cp0.index.extractLsb' 0 6).toNat]'(s.cp0.index.extractLsb' 0 6).isLt

theorem readTlb_entryHi (s : State) : let hi := (readTlb s).cp0.entryHi
    hi.extractLsb' 62 2 = s.indexed.r
      ∧ hi.extractLsb' 13 27 = s.indexed.vpn2 &&& ~~~((0 : BitVec 15) ++ s.indexed.mask)
      ∧ hi.extractLsb' 0 8 = s.indexed.asid := by
  rw [← mask_setWidth_27]
  exact entryHi_fields _ _ _

/-! The entry that is written. -/

theorem legalMask_iff {m : BitVec 12} :
    legalMask m = true ↔ m ∈ ([0, 0x3, 0xF, 0x3F, 0xFF, 0x3FF, 0xFFF] : List (BitVec 12)) := by
  simp [legalMask, or_assoc]

/-- Two entries that some address matches under one ASID, field by field (20_memory.md R279). -/
theorem overlaps_iff {a b : TlbEntry} : overlaps a b = true ↔
    b.r = a.r ∧ (b.g = true ∨ a.g = true ∨ b.asid = a.asid)
      ∧ b.vpn2 &&& ~~~((0 : BitVec 15) ++ (b.mask ||| a.mask))
        = a.vpn2 &&& ~~~((0 : BitVec 15) ++ (b.mask ||| a.mask)) := by
  rw [overlaps_comm]
  simp only [overlaps, Bool.and_eq_true, Bool.or_eq_true, beq_iff_eq, mask_setWidth_27, xor_and_eq_zero_iff,
    and_assoc, or_assoc]

/-- No entry but `i` would match an address that the entry CP0 describes matches. -/
def State.TlbFree (s : State) (i : BitVec 6) : Prop :=
  ∀ j : Fin 64, j.val ≠ i.toNat → ¬overlaps (entryOfCp0 s) s.tlb[j] = true

/-- Entry `i` takes `e`; everything else stays. -/
def OnlyTlb (i : BitVec 6) (e : TlbEntry) (s t : State) : Prop :=
  t.tlb = s.tlb.set i.toNat e i.isLt ∧ OnlyPc s { t with tlb := s.tlb }

section
variable {s : State} {i : BitVec 6} {ins : Instr}

theorem tlbFree_iff : s.TlbFree i ↔ ((List.finRange 64).any fun j =>
    j.val != i.toNat && overlaps (entryOfCp0 s) s.tlb[j]) = false := by
  simp [State.TlbFree]

theorem writeTlb_illegal (hm : ¬legalMask (entryOfCp0 s).mask = true) :
    writeTlb i s = .fault .tlbIllegalMask := if_pos (by simpa using hm)

theorem writeTlb_second (hm : legalMask (entryOfCp0 s).mask = true) (hf : ¬s.TlbFree i) :
    writeTlb i s = .fault .tlbMultipleMatch := by
  rw [tlbFree_iff, Bool.not_eq_false] at hf
  simp only [writeTlb, hm, hf]
  rfl

theorem writeTlb_free (hm : legalMask (entryOfCp0 s).mask = true) (hf : s.TlbFree i) :
    writeTlb i s = .next (advance { s with tlb := s.tlb.set i.toNat (entryOfCp0 s) i.isLt }) := by
  rw [tlbFree_iff] at hf
  simp only [writeTlb, hm, hf]
  rfl

theorem does_writeTlb {e : TlbEntry} (hi : exec ins s = writeTlb i s) (he : entryOfCp0 s = e)
    (hm : legalMask (entryOfCp0 s).mask = true) (hf : s.TlbFree i) : Does ins s (OnlyTlb i e) :=
  ⟨_, hi.trans (writeTlb_free hm hf), he ▸ rfl, ⟨rfl, rfl, rfl⟩, rfl⟩

/-- A probe that one entry answers (R669). -/
theorem probeTlb_one {j : Fin 64} (h : tlbHits s s.cp0.entryHi = [j]) :
    probeTlb s = .next (advance { s with cp0 := { s.cp0 with index := BitVec.ofNat 32 j.val } }) := by
  rw [probeTlb, h]

theorem probeTlb_none (h : tlbHits s s.cp0.entryHi = []) :
    probeTlb s = .next (advance { s with cp0 := { s.cp0 with
      index := (0x80000000 : BitVec 32) ||| (draw 6 .probeMiss s.tick 0).setWidth 32 } }) := by
  rw [probeTlb, h]

end

/-- Settles O47: the two writes by what their checks find, the read field by field, the probe by what it hits. -/
theorem tlbInstructions : Obligations.TlbInstructions := by
  intro s hu page mask entry writes legal meets alone idx
  have hentry : entryOfCp0 s = entry := by
    simp only [entryOfCp0, mask_setWidth_27]
    rfl
  have hlegal : legal ↔ legalMask (entryOfCp0 s).mask = true := legalMask_iff.symm
  have halone (i : BitVec 6) : alone i ↔ s.TlbFree i := by
    simp only [State.TlbFree, overlaps_iff, hentry]
    rfl
  simp only [hlegal, halone]
  have hwi : exec .tlbwi s = writeTlb idx s := withCp0_of_usable hu
  have hwr : exec .tlbwr s = writeTlb s.cp0.random s := withCp0_of_usable hu
  refine ⟨fun hm => ⟨fun hf => ?_, fun hf => ?_, fun hf => hwi.trans (writeTlb_second hm hf),
      fun hf => hwr.trans (writeTlb_second hm hf)⟩,
    fun hm => ⟨hwi.trans (writeTlb_illegal hm), hwr.trans (writeTlb_illegal hm)⟩, ?_, fun j hj => ?_,
    fun hj => ?_⟩
  · exact does_writeTlb hwi hentry hm hf
  · exact does_writeTlb hwr hentry hm hf
  · obtain ⟨hr, hvpn2, hasid⟩ := readTlb_entryHi s
    exact ⟨_, withCp0_of_usable hu, pageMask_field _, hr, hvpn2, hasid, pageOfLo_loOfPage _ _ _,
      pageOfLo_loOfPage _ _ _, global_loOfPage _ _ _, global_loOfPage _ _ _, ⟨rfl, rfl, rfl⟩, rfl⟩
  · exact ⟨_, (withCp0_of_usable hu).trans (probeTlb_one hj), rfl, ⟨rfl, rfl, rfl⟩, rfl⟩
  · exact ⟨_, (withCp0_of_usable hu).trans (probeTlb_none hj), by simp [advance], ⟨rfl, rfl, rfl⟩, rfl⟩

end Sys2Proof.Machine
end

section
/-! SUPPORT. CACHE on a cached address: the machine afterwards, and a line written with every other line kept
(46_cp0_privileged.md R680). -/

namespace Sys2Proof.Machine

section
variable {set w : Nat} {m : MemSys}

/-! One line written. -/

/-- In the data cache the line at `set`, `w` becomes `x`; every other line stays. -/
def OnlyDLine (set w : Nat) (x : DLine) (m m' : MemSys) : Prop :=
  dGet m' set w = x ∧ ∀ q v, v < 4 → (q, v) ≠ (set, w) → dGet m' q v = dGet m q v

/-- In the level-2 cache the line at `set`, `w` becomes `x`; every other line stays. -/
def OnlySLine (set w : Nat) (x : SLine) (m m' : MemSys) : Prop :=
  sGet m' set w = x ∧ ∀ q v, v < 4 → (q, v) ≠ (set, w) → sGet m' q v = sGet m q v

theorem onlyDLine_dSet (hw : w < 4) (x : DLine) : OnlyDLine set w x m (dSet m set w x) :=
  ⟨(dGet_dSet _ _ hw hw).trans (if_pos ⟨rfl, rfl⟩),
    fun _ _ hv hne => (dGet_dSet _ _ hv hw).trans (if_neg fun h => hne (by rw [h.1, h.2]))⟩

theorem onlySLine_sSet (hw : w < 4) (x : SLine) : OnlySLine set w x m (sSet m set w x) :=
  ⟨(sGet_sSet _ _ hw hw).trans (if_pos ⟨rfl, rfl⟩),
    fun _ _ hv hne => (sGet_sSet _ _ hv hw).trans (if_neg fun h => hne (by rw [h.1, h.2]))⟩

/-! Index Store Tag: a line of the state 00 counts as initialised (R685, R686,
20_memory.md R299). -/

/-- The memory system with a data-cache line written by Index Store Tag. -/
def storeTagD (set w : Nat) (x : DLine) (m : MemSys) : MemSys :=
  if x.cs = 0 then warmD (dSet m set w x) set w else dSet m set w x

/-- The memory system with a level-2 line written by Index Store Tag. -/
def storeTagS (set w : Nat) (x : SLine) (m : MemSys) : MemSys :=
  if x.st = 0 then warmS (sSet m set w x) set w else sSet m set w x

theorem onlyDLine_storeTagD (hw : w < 4) (x : DLine) : OnlyDLine set w x m (storeTagD set w x m) := by
  unfold storeTagD
  split <;> exact onlyDLine_dSet hw x

theorem onlySLine_storeTagS (hw : w < 4) (x : SLine) : OnlySLine set w x m (storeTagS set w x m) := by
  unfold storeTagS
  split <;> exact onlySLine_sSet hw x

theorem frame_storeTagD (x : DLine) :
    { storeTagD set w x m with dcache := m.dcache, coldD := m.coldD } = m := by
  unfold storeTagD
  split <;> rfl

theorem frame_storeTagS (x : SLine) :
    { storeTagS set w x m with scache := m.scache, coldS := m.coldS } = m := by
  unfold storeTagS
  split <;> rfl

theorem coldD_storeTagD (x : DLine) : (storeTagD set w x m).coldD
    = if x.cs = 0 then rangesWithout (set * 4 + w) m.coldD else m.coldD := by
  unfold storeTagD
  split <;> rfl

theorem coldS_storeTagS (x : SLine) : (storeTagS set w x m).coldS
    = if x.st = 0 then rangesWithout (set * 4 + w) m.coldS else m.coldS := by
  unfold storeTagS
  split <;> rfl

/-! Index Invalidate of an instruction-cache set (R687). -/

/-- One way of an instruction-cache set invalidated and initialised. -/
def invalidateI (set : Nat) (m : MemSys) (w : Nat) : MemSys :=
  warmI (iSet m set w { iGet m set w with v := false }) set w

theorem iGet_foldl_invalidateI {q v : Nat} (ws : List Nat) (hws : ∀ w ∈ ws, w < 4) (hv : v < 4) :
    iGet (ws.foldl (invalidateI set) m) q v
      = if q = set ∧ v ∈ ws then { iGet m q v with v := false } else iGet m q v := by
  induction ws generalizing m with
  | nil => simp
  | cons w ws ih =>
    have hone : iGet (invalidateI set m w) q v
        = if q = set ∧ v = w then { iGet m set w with v := false } else iGet m q v :=
      iGet_iSet _ _ hv (hws w List.mem_cons_self)
    rw [List.foldl_cons, ih fun w hw => hws w (List.mem_cons_of_mem _ hw), hone]
    grind

theorem mem_ways {v : Nat} : v ∈ ways ↔ v < 4 := by
  simp [ways]
  omega

theorem iGet_invalidated {v : Nat} (hv : v < 4) :
    iGet (ways.foldl (invalidateI set) m) set v = { iGet m set v with v := false } := by
  rw [iGet_foldl_invalidateI ways (fun _ => mem_ways.1) hv, if_pos ⟨rfl, mem_ways.2 hv⟩]

theorem iGet_invalidated_other {q v : Nat} (hv : v < 4) (hq : q ≠ set) :
    iGet (ways.foldl (invalidateI set) m) q v = iGet m q v := by
  rw [iGet_foldl_invalidateI ways (fun _ => mem_ways.1) hv, if_neg fun h => hq h.1]

end

/-! The instruction. -/

/-- The state after CACHE, from the tag registers and the memory system. -/
def State.afterCache (s : State) (r : BitVec 32 × BitVec 32) (m : MemSys) : State :=
  advance { s with mem := m, cp0 := { s.cp0 with tagLo := r.1, tagHi := r.2 } }

/-- The tag registers. -/
def State.tags (s : State) : BitVec 32 × BitVec 32 := (s.cp0.tagLo, s.cp0.tagHi)

/-- The operation `opn` at the effective address. -/
def State.cacheOpAt (s : State) (base opn : Reg) (offset : Imm16) (pa : PAddr) : MemRes (BitVec 32 × BitVec 32) :=
  cacheOp s.ctx opn (s.ea base offset) pa s.cp0.tagLo s.cp0.tagHi s.mem

/-- Only the memory system changes, and of it only what `m` shows. -/
theorem onlyPc_afterCache (s : State) {m m' : MemSys} (h : m' = s.mem) :
    OnlyPc s { s.afterCache s.tags m with mem := m' } := by
  subst h
  exact ⟨⟨rfl, rfl, rfl⟩, rfl⟩

/-- TagLo and TagHi take `x` and `y`; everything else stays. -/
def OnlyTags (x y : BitVec 32) (s t : State) : Prop :=
  t.cp0 = { s.cp0 with tagLo := x, tagHi := y } ∧ OnlyPc s { t with cp0 := s.cp0 }

theorem onlyTags_afterCache (s : State) (x y : BitVec 32) : OnlyTags x y s (s.afterCache (x, y) s.mem) :=
  ⟨rfl, ⟨rfl, rfl, rfl⟩, rfl⟩

section
variable {s : State} {base opn : Reg} {offset : Imm16} {pa : PAddr} {r : BitVec 32 × BitVec 32} {m : MemSys}

/-- The data-cache line that Index Store Tag (D) makes of `d` (R685). -/
def State.taggedD (s : State) (d : DLine) : DLine :=
  { d with
    way := s.cp0.tagLo.extractLsb' 4 2, cs := s.cp0.tagLo.extractLsb' 6 2
    tag := s.cp0.tagHi.extractLsb' 0 4 ++ s.cp0.tagLo.extractLsb' 8 24 }

/-- The level-2 line that Index Store Tag (S) makes of `l` (R686). -/
def State.taggedS (s : State) (l : SLine) : SLine :=
  { l with
    st := s.cp0.tagLo.extractLsb' 10 2, tag := s.cp0.tagHi.extractLsb' 0 4 ++ s.cp0.tagLo.extractLsb' 13 19 }

/-- CACHE on a cached address is its operation (R680). -/
theorem exec_cache (hu : s.cp0Usable = true) (ht : translate s .load true (s.ea base offset) = .ok pa 3)
    (hd : cacheOpDefined opn = true) (hm : s.cacheOpAt base opn offset pa = .ok r m) :
    exec (.cache base opn offset) s = .next (s.afterCache r m) := by
  have hopn : cacheOp s.ctx opn (s.ea base offset) pa s.cp0.tagLo s.cp0.tagHi s.mem = .ok r m := hm
  show execCache base opn offset s = _
  simp only [execCache, hu, hd, ht, hopn]
  rfl

theorem does_cache {p : State → State → Prop} (hu : s.cp0Usable = true)
    (ht : translate s .load true (s.ea base offset) = .ok pa 3) (hd : cacheOpDefined opn = true)
    (hm : s.cacheOpAt base opn offset pa = .ok r m) (hp : p s (s.afterCache r m)) :
    Does (.cache base opn offset) s p :=
  ⟨_, exec_cache hu ht hd hm, hp⟩

end

end Sys2Proof.Machine
end

section
/-! SUPPORT. O48: the lines Index Store Tag and Index Invalidate write, and the images Index Load Tag reads
(46_cp0_privileged.md R684 to R687). -/

namespace Sys2Proof.Machine

/-- Settles O48, operation by operation: one line written, two tag registers written, or one set invalidated. -/
theorem cacheIndexOperations : Obligations.CacheIndexOperations := by
  intro s base offset pa hu va ht set way sset sway lo hi d l onlyD onlyS onlyTag
  have hway : way < 4 := (va.extractLsb' 0 2).isLt
  have hsway : sway < 4 := (pa.extractLsb' 0 2).isLt
  refine ⟨does_cache hu ht rfl (m := storeTagD set way (s.taggedD d) s.mem) rfl ?_,
    does_cache hu ht rfl (m := storeTagS sset sway (s.taggedS l) s.mem) rfl ?_,
    does_cache hu ht rfl rfl (onlyTags_afterCache s _ _),
    does_cache hu ht rfl (m := ways.foldl (invalidateI set) s.mem) rfl ?_⟩
  · obtain ⟨hline, hrest⟩ := onlyDLine_storeTagD (set := set) (m := s.mem) hway (s.taggedD d)
    exact ⟨hline, hrest, onlyPc_afterCache s (frame_storeTagD _)⟩
  · obtain ⟨hline, hrest⟩ := onlySLine_storeTagS (set := sset) (m := s.mem) hsway (s.taggedS l)
    exact ⟨hline, hrest, onlyPc_afterCache s (frame_storeTagS _)⟩
  · exact ⟨fun v hv => iGet_invalidated hv, fun q v hv hq => iGet_invalidated_other hv hq,
      onlyPc_afterCache s rfl⟩

end Sys2Proof.Machine
end

section
/-! SUPPORT. O49: the fields of a line's data that Index Load Data and Index Store Data move (46_cp0_privileged.md
R694, R695). -/

namespace Sys2Proof.Machine

theorem extractLsb'_ushiftRight {w : Nat} (x : BitVec w) (k i n : Nat) :
    (x >>> k).extractLsb' i n = x.extractLsb' (k + i) n := by
  apply BitVec.eq_of_getLsbD_eq
  intro b hb
  simp only [BitVec.getLsbD_extractLsb', BitVec.getLsbD_ushiftRight, Nat.add_assoc]

/-- The two tag registers that Index Load Data makes of a doubleword. -/
theorem dataTags_eq (d : BitVec 256) (k : Nat) :
    ((d >>> (64 * k)).extractLsb' 0 32, (d >>> (64 * k)).extractLsb' 32 32)
      = (d.extractLsb' (64 * k) 32, d.extractLsb' (64 * k + 32) 32) := by
  rw [extractLsb'_ushiftRight, extractLsb'_ushiftRight, Nat.add_zero]

/-- A doubleword of a line written: it takes the word, the other three stay. -/
theorem doubleword_putBytes (d : BitVec 256) (v : Word) {j k : Nat} (hj : j < 4) :
    (putBytes d (8 * k) 8 (v.setWidth 256)).extractLsb' (64 * j) 64
      = if j = k then v else d.extractLsb' (64 * j) 64 := by
  apply BitVec.eq_of_getLsbD_eq
  intro b hb
  have hin : (decide (64 * j + b < 256) && decide (8 * (8 * k) ≤ 64 * j + b)
      && decide (64 * j + b < 8 * (8 * k + 8))) = decide (j = k) := by
    rw [Bool.eq_iff_iff]
    simp only [Bool.and_eq_true, decide_eq_true_iff]
    omega
  simp only [BitVec.getLsbD_extractLsb', putBytes, getLsbD_merge, getLsbD_byteMask, BitVec.getLsbD_shiftLeft,
    BitVec.getLsbD_setWidth, hin]
  by_cases hjk : j = k
  · subst hjk
    have hpos : 64 * j + b - 8 * (8 * j) = b := by omega
    have hle : ¬64 * j + b < 8 * (8 * j) := by omega
    have hlt : 64 * j + b < 256 := by omega
    have hb256 : b < 256 := by omega
    simp only [decide_true, if_true, hpos, hle, hlt, hb, hb256, decide_false, Bool.not_false, Bool.true_and]
  · simp only [hjk, hb, decide_false, decide_true, if_false, Bool.false_eq_true, Bool.true_and,
      BitVec.getLsbD_extractLsb']

end Sys2Proof.Machine
end

section
/-! SUPPORT. O49: a level-2 line taken out with its level-1 copies (46_cp0_privileged.md R689, R691, R693). -/

namespace Sys2Proof.Machine

/-! What dropping the copies leaves. -/

theorem dropICopies_frame (pa : PAddr) (m : MemSys) : ∃ c, dropICopies pa m = { m with icache := c } := by
  unfold dropICopies
  generalize l1Places pa = ps
  induction ps generalizing m with
  | nil => exact ⟨_, rfl⟩
  | cons p ps ih =>
    have hone : ∃ c, dropICopy pa m p = { m with icache := c } := by
      unfold dropICopy
      dsimp only
      split <;> exact ⟨_, rfl⟩
    obtain ⟨c, hc⟩ := hone
    obtain ⟨c', hc'⟩ := ih { m with icache := c }
    exact ⟨c', by rw [List.foldl_cons, hc, hc']⟩

theorem dropDCopy_frame (wb : Bool) (pa : PAddr) (r : SLine × MemSys) (p : Nat × Nat) :
    (dropDCopy wb pa r p).1.tag = r.1.tag ∧ ∃ c, (dropDCopy wb pa r p).2 = { r.2 with dcache := c } := by
  unfold dropDCopy
  dsimp only
  split
  · split <;> exact ⟨rfl, _, rfl⟩
  · exact ⟨rfl, _, rfl⟩

theorem dropDCopies_frame (wb : Bool) (pa : PAddr) (l : SLine) (m : MemSys) :
    (dropDCopies wb pa l m).1.tag = l.tag ∧ ∃ c, (dropDCopies wb pa l m).2 = { m with dcache := c } := by
  unfold dropDCopies
  generalize l1Places pa = ps
  induction ps generalizing l m with
  | nil => exact ⟨rfl, _, rfl⟩
  | cons p ps ih =>
    obtain ⟨ht, c, hc⟩ := dropDCopy_frame wb pa (l, m) p
    obtain ⟨ht', c', hc'⟩ := ih (dropDCopy wb pa (l, m) p).1 (dropDCopy wb pa (l, m) p).2
    exact ⟨ht'.trans ht, c', by rw [List.foldl_cons, hc', hc]⟩

/-! The line taken out. -/

/-- The level-2 line at `set`, `w` and the rest of the memory system once the level-1 copies of `line` are dropped. -/
def dropCopies (wb : Bool) (line : PAddr) (set w : Nat) (m : MemSys) : SLine × MemSys :=
  dropDCopies wb line (sGet m set w) (dropICopies line m)

/-- A level-2 line of the state 00, its tag and data kept. -/
def SLine.emptied (l : SLine) : SLine := { l with st := 0 }

theorem SLine.emptied_st (l : SLine) : l.emptied.st = 0 := rfl

theorem SLine.emptied_tag (l : SLine) : l.emptied.tag = l.tag := rfl

/-- The memory system without the level-2 line at `set`, `w` and its level-1 copies. -/
def takeOutS (wb : Bool) (line : PAddr) (set w : Nat) (m : MemSys) : MemSys :=
  sSet (dropCopies wb line set w m).2 set w (dropCopies wb line set w m).1.emptied

/-- A level-1 set that can hold the line (20_memory.md R294). -/
abbrev L1SetOf (pa : PAddr) (q : Nat) : Prop := q < 512 ∧ q % 128 = (pa.extractLsb' 5 7).toNat

/-- A dirty data-cache copy of the line. -/
def DirtyCopy (m : MemSys) (pa line : PAddr) (q v : Nat) : Prop :=
  L1SetOf pa q ∧ v < 4 ∧ (dGet m q v).cs = 3 ∧ (dGet m q v).tag = l1Tag line

/-- The copies of the line that `pa` selects, and the line at `set`, `w`, are gone, and every other line stays. -/
def LineGone (wb : Bool) (pa line : PAddr) (set w : Nat) (m m' : MemSys) : Prop :=
  (∀ q v, v < 4 → iGet m' q v = { iGet m q v with
    v := (iGet m q v).v && !decide (L1SetOf pa q ∧ (iGet m q v).tag = l1Tag line) })
  ∧ (∀ q v, v < 4 → L1SetOf pa q → (dGet m q v).cs ≠ 0 ∧ (dGet m q v).tag = l1Tag line →
      dGet m' q v = droppedLine wb (dGet m q v))
  ∧ (∀ q v, v < 4 → ¬(L1SetOf pa q ∧ (dGet m q v).cs ≠ 0 ∧ (dGet m q v).tag = l1Tag line) →
      dGet m' q v = dGet m q v)
  ∧ (sGet m' set w).st = 0 ∧ (sGet m' set w).tag = (sGet m set w).tag
  ∧ (∀ q v, v < 4 → (q, v) ≠ (set, w) → sGet m' q v = sGet m q v)

theorem dropCopies_frame (wb : Bool) (line : PAddr) (set w : Nat) (m : MemSys) :
    (dropCopies wb line set w m).1.tag = (sGet m set w).tag
      ∧ ∃ i d, (dropCopies wb line set w m).2 = { m with icache := i, dcache := d } := by
  obtain ⟨i, hi⟩ := dropICopies_frame line m
  rw [dropCopies, hi]
  obtain ⟨ht, d, hd⟩ := dropDCopies_frame wb line (sGet m set w) { m with icache := i }
  exact ⟨ht, i, d, hd⟩

/-- Nothing but the three caches changes. -/
theorem takeOutS_frame (wb : Bool) (line : PAddr) (set w : Nat) (m : MemSys) :
    ∃ i d c, takeOutS wb line set w m = { m with icache := i, dcache := d, scache := c } := by
  obtain ⟨-, i, d, h⟩ := dropCopies_frame wb line set w m
  exact ⟨i, d, _, by rw [takeOutS, h, sSet]⟩

section
variable {wb : Bool} {pa line : PAddr} {set w q v : Nat} {m : MemSys}

theorem iGet_dropDCopies (l : SLine) : iGet (dropDCopies wb line l m).2 q v = iGet m q v := by
  obtain ⟨-, d, hd⟩ := dropDCopies_frame wb line l m
  rw [hd]
  rfl

theorem dGet_dropICopies : dGet (dropICopies line m) q v = dGet m q v := by
  obtain ⟨i, hi⟩ := dropICopies_frame line m
  rw [hi]
  rfl

theorem sGet_dropCopies : sGet (dropCopies wb line set w m).2 q v = sGet m q v := by
  obtain ⟨-, i, d, h⟩ := dropCopies_frame wb line set w m
  rw [h]
  rfl

theorem iGet_sSet (n u : Nat) (l : SLine) : iGet (sSet m n u l) q v = iGet m q v := rfl

theorem dGet_sSet (n u : Nat) (l : SLine) : dGet (sSet m n u l) q v = dGet m q v := rfl

theorem iGet_takeOutS : iGet (takeOutS wb line set w m) q v = iGet (dropICopies line m) q v := by
  rw [takeOutS, iGet_sSet, dropCopies, iGet_dropDCopies]

theorem dGet_takeOutS (hv : v < 4) : dGet (takeOutS wb line set w m) q v
    = if (q, v) ∈ l1Places line ∧ (dGet m q v).cs ≠ 0 ∧ (dGet m q v).tag = l1Tag line then
        droppedLine wb (dGet m q v)
      else dGet m q v := by
  rw [takeOutS, dGet_sSet, dropCopies, dGet_dropDCopies wb line _ _ hv]
  simp only [dGet_dropICopies]

theorem sGet_takeOutS (hv : v < 4) (hw : w < 4) : sGet (takeOutS wb line set w m) q v
    = if q = set ∧ v = w then (dropCopies wb line set w m).1.emptied else sGet m q v := by
  rw [takeOutS, sGet_sSet _ _ hv hw, sGet_dropCopies]

theorem mem_l1Places_of (hk : line.extractLsb' 5 7 = pa.extractLsb' 5 7) (hv : v < 4) :
    (q, v) ∈ l1Places line ↔ L1SetOf pa q := by
  rw [mem_l1Places, hk]
  simp [hv]

theorem lineGone_takeOutS (hk : line.extractLsb' 5 7 = pa.extractLsb' 5 7) (hw : w < 4) :
    LineGone wb pa line set w m (takeOutS wb line set w m) := by
  obtain ⟨htag, -⟩ := dropCopies_frame wb line set w m
  have hself : sGet (takeOutS wb line set w m) set w = (dropCopies wb line set w m).1.emptied :=
    (sGet_takeOutS hw hw).trans (if_pos ⟨rfl, rfl⟩)
  refine ⟨fun q v hv => ?_, fun q v hv hq hc => ?_, fun q v hv hn => ?_, by rw [hself, SLine.emptied_st],
    by rw [hself, SLine.emptied_tag, htag],
    fun q v hv hne => (sGet_takeOutS hv hw).trans (if_neg fun h => hne (by rw [h.1, h.2]))⟩
  · have hcopy : ((l1Places line).contains (q, v) && (iGet m q v).tag == l1Tag line)
        = decide (L1SetOf pa q ∧ (iGet m q v).tag = l1Tag line) := by
      rw [Bool.eq_iff_iff, Bool.and_eq_true, List.contains_iff_mem, mem_l1Places_of hk hv, beq_iff_eq,
        decide_eq_true_iff]
    rw [iGet_takeOutS, iGet_dropICopies line m hv, hcopy]
  · rw [dGet_takeOutS hv, if_pos ⟨(mem_l1Places_of hk hv).2 hq, hc⟩]
  · rw [dGet_takeOutS hv, if_neg fun h => hn ⟨(mem_l1Places_of hk hv).1 h.1, h.2⟩]

/-! What the level-2 line holds once the copies are dropped. -/

/-- Without a dirty copy, or without writing back, the level-2 line is as it was. -/
theorem dropCopies_clean (hk : line.extractLsb' 5 7 = pa.extractLsb' 5 7)
    (h : wb = false ∨ ∀ q v, ¬DirtyCopy m pa line q v) : (dropCopies wb line set w m).1 = sGet m set w := by
  refine sLine_dropDCopies wb line _ _ (h.imp_right fun h p hp ht hc => ?_)
  have hv := (mem_l1Places.1 hp).1
  rw [dGet_dropICopies] at ht hc
  exact h p.1 p.2 ⟨(mem_l1Places_of hk hv).1 hp, hv, hc, ht⟩

/-- The one dirty copy gives the level-2 line its bytes. -/
theorem dropCopies_dirty (hk : line.extractLsb' 5 7 = pa.extractLsb' 5 7) {q₀ v₀ : Nat}
    (h₀ : DirtyCopy m pa line q₀ v₀) (h : ∀ q v, DirtyCopy m pa line q v → (q, v) = (q₀, v₀)) :
    (dropCopies true line set w m).1 = { sGet m set w with st := 3, data := (dGet m q₀ v₀).data } := by
  obtain ⟨hq, hv, hc, ht⟩ := h₀
  have hd := sLine_dropDCopies_dirty line (sGet m set w) (dropICopies line m) (p := (q₀, v₀))
    ((mem_l1Places_of hk hv).2 hq)
  simp only [dGet_dropICopies] at hd
  refine hd ht hc fun p hp hne htp hcp => hne ?_
  have hv' := (mem_l1Places.1 hp).1
  exact h p.1 p.2 ⟨(mem_l1Places_of hk hv').1 hp, hv', hcp, htp⟩

/-! Writing back to memory. -/

/-- Index WriteBack Invalidate of a valid line takes it out, and writes it to memory if it is then Dirty (R689). -/
theorem evictS_valid {x : MemCtx} (hl : line = l2Addr (sGet m set w).tag set) (hst : (sGet m set w).st ≠ 0) :
    evictS x set w m = if (dropCopies true line set w m).1.st = 3 then
        busWrite x line 32 (dropCopies true line set w m).1.data (takeOutS true line set w m)
      else .ok () (takeOutS true line set w m) := by
  have hdrop : dropDCopies true line (sGet m set w) (dropICopies line m) = dropCopies true line set w m := rfl
  rw [evictS, if_neg hst, ← hl]
  dsimp only
  rw [hdrop]
  rfl

theorem evictS_clean {x : MemCtx} (hl : line = l2Addr (sGet m set w).tag set) (hst : (sGet m set w).st ≠ 0)
    (h3 : (dropCopies true line set w m).1.st ≠ 3) : evictS x set w m = .ok () (takeOutS true line set w m) :=
  (evictS_valid hl hst).trans (if_neg h3)

theorem evictS_written {x : MemCtx} {a : Nat} {d : BitVec 256} (hl : line = l2Addr (sGet m set w).tag set)
    (hst : (sGet m set w).st ≠ 0) (h3 : (dropCopies true line set w m).1.st = 3)
    (hd : (dropCopies true line set w m).1.data = d) (hroute : route m.chip line.toNat = .ok (.ddr a))
    (hready : m.chip.ddrReady = true) (hsize : a + 32 ≤ x.params.ddrSize) :
    evictS x set w m
      = .ok () { takeOutS true line set w m with ddr := writeBytes m.ddr a d 32 } := by
  obtain ⟨i, e, c, hf⟩ := takeOutS_frame true line set w m
  rw [evictS_valid hl hst, if_pos h3, hd, hf]
  exact busWrite_ddr d hroute hready hsize

/-! Addresses. -/

/-- The address of the level-2 line of tag `tag` in the set `pa` selects (R131). -/
def lineIn (tag : BitVec 23) (pa : PAddr) : PAddr := tag ++ pa.extractLsb' 5 12 ++ (0 : BitVec 5)

theorem lineIn_index (tag : BitVec 23) (pa : PAddr) : (lineIn tag pa).extractLsb' 5 7 = pa.extractLsb' 5 7 := by
  apply BitVec.eq_of_getLsbD_eq
  intro i hi
  simp only [lineIn, BitVec.getLsbD_extractLsb', BitVec.getLsbD_append]
  grind

theorem l2Addr_l2Set (tag : BitVec 23) (pa : PAddr) : l2Addr tag (l2Set pa) = lineIn tag pa := by
  rw [l2Addr, l2Set, BitVec.ofNat_toNat, BitVec.setWidth_eq, lineIn]

theorem lineOf_eq (pa : PAddr) : lineOf pa = lineIn (l2Tag pa) pa := by
  rw [lineOf, lineIn, l2Tag, BitVec.extractLsb'_append_extractLsb'_eq_extractLsb' (by decide)]

/-- The level-2 set of a level-1 line's address (R131, R293). -/
theorem l2Set_l1Addr (tag : BitVec 28) (va : Word) : l2Set (l1Addr tag (l1Set va))
    = (tag.extractLsb' 0 5 ++ va.extractLsb' 5 7 : BitVec 12).toNat := by
  have hset : BitVec.ofNat 7 (l1Set va) = va.extractLsb' 5 7 := by
    apply BitVec.eq_of_toNat_eq
    simp only [l1Set, BitVec.toNat_ofNat, BitVec.extractLsb'_toNat]
    omega
  have hbits : (tag ++ va.extractLsb' 5 7 ++ (0 : BitVec 5)).extractLsb' 5 12
      = tag.extractLsb' 0 5 ++ va.extractLsb' 5 7 := by
    apply BitVec.eq_of_getLsbD_eq
    intro i hi
    simp only [BitVec.getLsbD_extractLsb', BitVec.getLsbD_append]
    grind
  rw [l2Set, l1Addr, hset, hbits]

end

end Sys2Proof.Machine
end

section
/-! SUPPORT. O49: a data-cache line written back and invalidated, and a line found by its address, or not found
(46_cp0_privileged.md R688, 10_state.md R130, R131). -/

namespace Sys2Proof.Machine

section
variable {x : MemCtx} {set w : Nat} {m : MemSys} {pa : PAddr}

theorem evictD_clean (h : (dGet m set w).cs ≠ 3) :
    evictD x set w m = .ok () (dSet m set w { dGet m set w with cs := 0 }) := if_neg h

/-- The level-2 set that a data-cache line is written back to (R688). -/
def backSet (m : MemSys) (set w : Nat) : Nat := l2Set (l1Addr (dGet m set w).tag set)

/-- A dirty data-cache line's bytes put into the level-2 line its SCWay names (R688). -/
def writtenBackD (set w : Nat) (m : MemSys) : MemSys :=
  sSet m (backSet m set w) (dGet m set w).way.toNat
    { sGet m (backSet m set w) (dGet m set w).way.toNat with st := 3, data := (dGet m set w).data }

theorem evictD_dirty (h : (dGet m set w).cs = 3) (hs : m.chip.disableScache = false) :
    evictD x set w m
      = .ok () (dSet (writtenBackD set w m) set w { dGet m set w with cs := 0, w := true }) := by
  simp only [evictD, h, writeBackD, hs]
  rfl

theorem sHit_of_only (hw : w < 4)
    (h : ∀ v, v < 4 → ((sGet m (l2Set pa) v).st ≠ 0 ∧ (sGet m (l2Set pa) v).tag = l2Tag pa ↔ v = w)) :
    sHit m pa = some w := by
  have hp (v : Nat) (hv : v < 4) :
      ((sGet m (l2Set pa) v).st != 0 && (sGet m (l2Set pa) v).tag == l2Tag pa) = decide (v = w) := by
    rw [Bool.eq_iff_iff, Bool.and_eq_true, bne_iff_ne, beq_iff_eq, decide_eq_true_iff]
    exact h v hv
  simp only [sHit, ways, List.find?, hp 0 (by decide), hp 1 (by decide), hp 2 (by decide), hp 3 (by decide)]
  interval_cases w <;> rfl

theorem sHit_none (h : ∀ v, v < 4 → ¬((sGet m (l2Set pa) v).st ≠ 0 ∧ (sGet m (l2Set pa) v).tag = l2Tag pa)) :
    sHit m pa = none :=
  List.find?_eq_none.2 fun v hv => by simpa using h v (mem_ways.1 hv)

theorem dHit_none (h : ∀ v, v < 4 → ¬((dGet m set v).cs ≠ 0 ∧ (dGet m set v).tag = l1Tag pa)) :
    dHit m set pa = none :=
  List.find?_eq_none.2 fun v hv => by simpa using h v (mem_ways.1 hv)

end

end Sys2Proof.Machine
end

section
/-! SUPPORT. O49: what CACHE does by a data-cache line evicted and a level-2 line taken out, in the terms of the claim
(46_cp0_privileged.md R688 to R693). -/

namespace Sys2Proof.Machine

/-! The operations, from what they find. -/

theorem bind_keep {α β : Type} {r : MemRes α} {a : α} {b : β} {m : MemSys} (h : r = .ok a m) :
    (r.bind fun _ m1 => .ok b m1) = .ok b m := by
  rw [h]
  rfl

section
variable {s : State} {base : Reg} {offset : Imm16} {pa : PAddr} {w : Nat} {m : MemSys}

theorem cacheOpAt_hitD_none (h : dHit s.mem (l1Set (s.ea base offset)) pa = none) :
    ∀ n ∈ ([0x11, 0x15] : List Reg),
      cacheOpDefined n = true ∧ s.cacheOpAt base n offset pa = .ok s.tags s.mem := by
  simp only [← List.forall_iff_forall_mem, List.Forall]
  refine ⟨⟨rfl, ?_⟩, rfl, ?_⟩
  · simp [State.cacheOpAt, cacheOp, h, State.tags]
  · simp [State.cacheOpAt, cacheOp, h, State.tags]

theorem cacheOpAt_hitS_none (h : sHit s.mem pa = none) :
    ∀ n ∈ ([0x13, 0x17] : List Reg),
      cacheOpDefined n = true ∧ s.cacheOpAt base n offset pa = .ok s.tags s.mem := by
  simp only [← List.forall_iff_forall_mem, List.Forall]
  refine ⟨⟨rfl, ?_⟩, rfl, ?_⟩
  · simp [State.cacheOpAt, cacheOp, h, State.tags]
  · simp [State.cacheOpAt, cacheOp, h, State.tags]

theorem cacheOpAt_hitInvalidateD (h : dHit s.mem (l1Set (s.ea base offset)) pa = some w) :
    s.cacheOpAt base 0x11 offset pa = .ok s.tags
      (dSet s.mem (l1Set (s.ea base offset)) w { dGet s.mem (l1Set (s.ea base offset)) w with cs := 0 }) := by
  simp [State.cacheOpAt, cacheOp, h, State.tags]

theorem cacheOpAt_hitWriteBackD (h : dHit s.mem (l1Set (s.ea base offset)) pa = some w)
    (hm : evictD s.ctx (l1Set (s.ea base offset)) w s.mem = .ok () m) :
    s.cacheOpAt base 0x15 offset pa = .ok s.tags m := by
  simp [State.cacheOpAt, cacheOp, h, State.tags, hm, MemRes.bind]

theorem cacheOpAt_hitInvalidateS (h : sHit s.mem pa = some w) :
    s.cacheOpAt base 0x13 offset pa = .ok s.tags (takeOutS false (lineOf pa) (l2Set pa) w s.mem) := by
  simp [State.cacheOpAt, cacheOp, h, State.tags, takeOutS, dropCopies, SLine.emptied]

theorem cacheOpAt_hitWriteBackS (h : sHit s.mem pa = some w) (hm : evictS s.ctx (l2Set pa) w s.mem = .ok () m) :
    s.cacheOpAt base 0x17 offset pa = .ok s.tags m := by
  simp [State.cacheOpAt, cacheOp, h, State.tags, hm, MemRes.bind]

end

/-! A data-cache line evicted. -/

/-- The data-cache line at `set`, `w` becomes Invalid; everything else stays. -/
def DroppedD (set w : Nat) (s t : State) : Prop :=
  OnlyDLine set w { dGet s.mem set w with cs := 0 } s.mem t.mem
    ∧ OnlyPc s { t with mem := { t.mem with dcache := s.mem.dcache } }

/-- The data-cache line at `set`, `w` becomes Invalid with W set, its bytes go into the level-2 line of set `q₀` its
SCWay names, then Dirty; everything else stays. -/
def WrittenBackD (set w q₀ : Nat) (s t : State) : Prop :=
  let d := dGet s.mem set w
  OnlyDLine set w { d with cs := 0, w := true } s.mem t.mem
    ∧ sGet t.mem q₀ d.way.toNat = { sGet s.mem q₀ d.way.toNat with st := 3, data := d.data }
    ∧ (∀ q v, v < 4 → (q, v) ≠ (q₀, d.way.toNat) → sGet t.mem q v = sGet s.mem q v)
    ∧ OnlyPc s { t with mem := { t.mem with dcache := s.mem.dcache, scache := s.mem.scache } }

section
variable {s : State} {i : Instr} {set w : Nat}

theorem does_dropD (hw : w < 4) (hi : exec i s
      = .next (s.afterCache s.tags (dSet s.mem set w { dGet s.mem set w with cs := 0 }))) :
    Does i s (DroppedD set w) :=
  ⟨_, hi, onlyDLine_dSet hw _, onlyPc_afterCache s rfl⟩

theorem does_evictD_dirty (hw : w < 4) (hi : exec i s = .next (s.afterCache s.tags
      (dSet (writtenBackD set w s.mem) set w { dGet s.mem set w with cs := 0, w := true }))) :
    Does i s (WrittenBackD set w (backSet s.mem set w)) := by
  obtain ⟨hline, hrest⟩ := onlySLine_sSet (m := s.mem) (set := backSet s.mem set w) (dGet s.mem set w).way.isLt
    { sGet s.mem (backSet s.mem set w) (dGet s.mem set w).way.toNat with st := 3, data := (dGet s.mem set w).data }
  exact ⟨_, hi, onlyDLine_dSet (m := writtenBackD set w s.mem) hw _, hline, hrest, onlyPc_afterCache s rfl⟩

/-- An instruction that evicts a data-cache line: dropped, and written back if it is Dirty. -/
theorem does_evictD (hw : w < 4) (hs : s.mem.chip.disableScache = false)
    (hi : ∀ m, evictD s.ctx set w s.mem = .ok () m → exec i s = .next (s.afterCache s.tags m)) :
    ((dGet s.mem set w).cs ≠ 3 → Does i s (DroppedD set w))
      ∧ ((dGet s.mem set w).cs = 3 → Does i s (WrittenBackD set w (backSet s.mem set w))) :=
  ⟨fun h => does_dropD hw (hi _ (evictD_clean h)), fun h => does_evictD_dirty hw (hi _ (evictD_dirty h hs))⟩

end

/-! A level-2 line taken out. -/

/-- Everything but the three caches stays. -/
def OnlyCaches (s t : State) : Prop :=
  OnlyPc s { t with mem := { t.mem with icache := s.mem.icache, dcache := s.mem.dcache, scache := s.mem.scache } }

/-- The line is gone and the 32 bytes of memory from `a` up take `x`; everything else stays. -/
def WrittenOut (wb : Bool) (pa line : PAddr) (set w : Nat) (x : BitVec 256) (a : Nat) (s t : State) : Prop :=
  LineGone wb pa line set w s.mem t.mem
    ∧ (∀ k, k < 32 → readByte t.mem.ddr (a + k) = x.extractLsb' (8 * k) 8)
    ∧ (∀ b, b < a ∨ a + 32 ≤ b → readByte t.mem.ddr b = readByte s.mem.ddr b)
    ∧ OnlyCaches s { t with mem := { t.mem with ddr := s.mem.ddr } }

section
variable {s : State} {i : Instr} {pa line : PAddr} {set w a : Nat}

theorem does_takeOutS {wb : Bool} (hk : line.extractLsb' 5 7 = pa.extractLsb' 5 7) (hw : w < 4)
    (hi : exec i s = .next (s.afterCache s.tags (takeOutS wb line set w s.mem))) :
    Does i s fun s t => LineGone wb pa line set w s.mem t.mem ∧ OnlyCaches s t := by
  obtain ⟨ic, dc, sc, hframe⟩ := takeOutS_frame wb line set w s.mem
  have hgone := lineGone_takeOutS (wb := wb) (set := set) (m := s.mem) hk hw
  rw [hframe] at hi hgone
  exact ⟨_, hi, hgone, onlyPc_afterCache s rfl⟩

theorem does_writeOutS {x : BitVec 256} (hk : line.extractLsb' 5 7 = pa.extractLsb' 5 7) (hw : w < 4)
    (hwf : Memory.wf s.mem.ddr = true)
    (hi : exec i s = .next (s.afterCache s.tags
      { takeOutS true line set w s.mem with ddr := writeBytes s.mem.ddr a x 32 })) :
    Does i s (WrittenOut true pa line set w x a) := by
  obtain ⟨ic, dc, sc, hframe⟩ := takeOutS_frame true line set w s.mem
  have hgone := lineGone_takeOutS (wb := true) (set := set) (m := s.mem) hk hw
  rw [hframe] at hi hgone
  exact ⟨_, hi, hgone, fun k hk => readByte_writeBytes _ _ _ _ hwf hk,
    fun b hb => readByte_writeBytes_other _ _ _ _ hwf hb, onlyPc_afterCache s rfl⟩

/-- What an instruction that takes out a level-2 line does, by what is dirty. -/
def TakesOutS (i : Instr) (wb : Bool) (pa line : PAddr) (set w : Nat) (s : State) : Prop :=
  (wb = false ∨ (sGet s.mem set w).st ≠ 3 ∧ (∀ q v, ¬DirtyCopy s.mem pa line q v) →
      Does i s fun s t => LineGone wb pa line set w s.mem t.mem ∧ OnlyCaches s t)
    ∧ ∀ a, wb = true → route s.mem.chip line.toNat = .ok (.ddr a) → s.mem.chip.ddrReady = true →
      a + 32 ≤ s.params.ddrSize → Memory.wf s.mem.ddr = true →
      ((sGet s.mem set w).st = 3 → (∀ q v, ¬DirtyCopy s.mem pa line q v) →
          Does i s (WrittenOut wb pa line set w (sGet s.mem set w).data a))
        ∧ ∀ q₀ v₀, DirtyCopy s.mem pa line q₀ v₀ → (∀ q v, DirtyCopy s.mem pa line q v → (q, v) = (q₀, v₀)) →
          Does i s (WrittenOut wb pa line set w (dGet s.mem q₀ v₀).data a)

/-- Hit Invalidate (S) writes nothing (R691). -/
theorem takesOutS_invalidate (hk : line.extractLsb' 5 7 = pa.extractLsb' 5 7) (hw : w < 4)
    (hi : exec i s = .next (s.afterCache s.tags (takeOutS false line set w s.mem))) :
    TakesOutS i false pa line set w s :=
  ⟨fun _ => does_takeOutS hk hw hi, nofun⟩

/-- The WriteBack forms of the level-2 cache (R689, R693). -/
theorem takesOutS_writeBack (hk : line.extractLsb' 5 7 = pa.extractLsb' 5 7) (hw : w < 4)
    (hl : line = l2Addr (sGet s.mem set w).tag set) (hst : (sGet s.mem set w).st ≠ 0)
    (hi : ∀ m, evictS s.ctx set w s.mem = .ok () m → exec i s = .next (s.afterCache s.tags m)) :
    TakesOutS i true pa line set w s := by
  refine ⟨fun h => ?_, fun a _ hroute hready hsize hwf => ⟨fun h3 hclean => ?_, fun q₀ v₀ h₀ honly => ?_⟩⟩
  · obtain ⟨h3, hclean⟩ := h.resolve_left nofun
    refine does_takeOutS hk hw (hi _ (evictS_clean hl hst ?_))
    rwa [dropCopies_clean hk (.inr hclean)]
  · have hcopies := dropCopies_clean (wb := true) (set := set) (w := w) hk (.inr hclean)
    exact does_writeOutS hk hw hwf (hi _ (evictS_written hl hst ((congrArg SLine.st hcopies).trans h3)
      (congrArg SLine.data hcopies) hroute hready hsize))
  · have hcopies := dropCopies_dirty (set := set) (w := w) hk h₀ honly
    exact does_writeOutS hk hw hwf (hi _ (evictS_written hl hst (congrArg SLine.st hcopies)
      (congrArg SLine.data hcopies) hroute hready hsize))

end

/-- Settles O49: the tags and data moved field by field; a data-cache line evicted; a level-2 line taken out. -/
theorem cacheTransfers : Obligations.CacheTransfers := by
  refine ⟨fun s base offset pa hu => ?_, fun s base offset pa hu => ?_⟩
  · intro va ht set way sset sway lo hi d l dword sword onlyD onlyS onlyTag stored
    have hway : way < 4 := (va.extractLsb' 0 2).isLt
    have hsway : sway < 4 := (pa.extractLsb' 0 2).isLt
    refine ⟨does_cache hu ht rfl rfl ⟨_, onlyTags_afterCache s _ _⟩,
      does_cache hu ht rfl (congrArg (MemRes.ok · s.mem) (dataTags_eq d.data dword)) (onlyTags_afterCache s _ _),
      does_cache hu ht rfl (congrArg (MemRes.ok · s.mem) (dataTags_eq l.data sword)) (onlyTags_afterCache s _ _),
      does_cache hu ht rfl rfl ⟨_, fun j hj => doubleword_putBytes d.data (hi ++ lo) hj, ?_, rfl⟩,
      does_cache hu ht rfl rfl ⟨_, fun j hj => doubleword_putBytes l.data (hi ++ lo) hj, ?_, rfl⟩,
      does_cache hu ht rfl (m := storeTagD set way (s.taggedD d) s.mem) rfl (coldD_storeTagD _),
      does_cache hu ht rfl (m := storeTagS sset sway (s.taggedS l) s.mem) rfl (coldS_storeTagS _),
      does_cache hu ht rfl (m := ways.foldl (invalidateI set) s.mem) rfl rfl⟩
    · obtain ⟨hline, hrest⟩ := onlyDLine_dSet (set := set) (m := s.mem) hway _
      exact ⟨hline, hrest, onlyPc_afterCache s rfl⟩
    · obtain ⟨hline, hrest⟩ := onlySLine_sSet (set := sset) (m := s.mem) hsway _
      exact ⟨hline, hrest, onlyPc_afterCache s rfl⟩
  · intro va ht hs set sset holdsD holdsS emptied dropped backD outS
    have hevictD (i : Instr) (w : Nat) (hw : w < 4)
        (hi : ∀ m, evictD s.ctx set w s.mem = .ok () m → exec i s = .next (s.afterCache s.tags m)) :
        backD i w := by
      have hdoes := does_evictD hw hs hi
      have hback : backSet s.mem set w = _ := l2Set_l1Addr _ va
      rwa [hback] at hdoes
    have hevictS (i : Instr) (w : Nat) (hw : w < 4) (hst : (sGet s.mem sset w).st ≠ 0)
        (hi : ∀ m, evictS s.ctx sset w s.mem = .ok () m → exec i s = .next (s.afterCache s.tags m)) :
        outS i true w :=
      takesOutS_writeBack (lineIn_index _ pa) hw (l2Addr_l2Set _ pa).symm hst hi
    refine ⟨hevictD _ _ (va.extractLsb' 0 2).isLt fun m hm => exec_cache hu ht rfl (bind_keep hm), fun h n hn => ?_,
      fun w hw h => ⟨?_, ?_⟩, fun hst => ?_, fun hst => ?_, fun h n hn => ?_, fun w hw h => ⟨?_, ?_⟩⟩
    · obtain ⟨hd, hm⟩ := cacheOpAt_hitD_none (dHit_none h) n hn
      exact does_cache hu ht hd hm (onlyPc_afterCache s rfl)
    · exact does_dropD hw (exec_cache hu ht rfl (cacheOpAt_hitInvalidateD (dHit_of_only hw h)))
    · exact hevictD _ _ hw fun m hm => exec_cache hu ht rfl (cacheOpAt_hitWriteBackD (dHit_of_only hw h) hm)
    · exact does_cache hu ht rfl (bind_keep (if_pos hst)) (onlyPc_afterCache s rfl)
    · exact hevictS _ _ (pa.extractLsb' 0 2).isLt hst fun m hm => exec_cache hu ht rfl (bind_keep hm)
    · obtain ⟨hd, hm⟩ := cacheOpAt_hitS_none (sHit_none h) n hn
      exact does_cache hu ht hd hm (onlyPc_afterCache s rfl)
    · have htag : lineOf pa = lineIn (sGet s.mem sset w).tag pa := by
        rw [lineOf_eq, ((h w hw).2 rfl).2]
        rfl
      have hm := cacheOpAt_hitInvalidateS (s := s) (base := base) (offset := offset) (sHit_of_only hw h)
      rw [htag] at hm
      exact takesOutS_invalidate (lineIn_index _ pa) hw (exec_cache hu ht rfl hm)
    · exact hevictS _ _ hw ((h w hw).2 rfl).1 fun m hm =>
        exec_cache hu ht rfl (cacheOpAt_hitWriteBackS (sHit_of_only hw h) hm)

end Sys2Proof.Machine
end

section
/-! SUPPORT. O12: in user mode without CU0 and U-Mode an instruction leaves CP0 and both TLBs, or leaves them
until it takes an exception. -/

namespace Sys2Proof.Machine

/-- CP0, the JTLB and the ITLB of `t` are those of `s`. -/
def SamePrivileged (s t : State) : Prop := t.cp0 = s.cp0 ∧ t.tlb = s.tlb ∧ t.itlb = s.itlb

/-- `t` comes from `s` without a write of CP0 or a TLB, an exception at the end apart (60_exceptions.md R891). -/
def UserLeaves (s t : State) : Prop :=
  SamePrivileged s t ∨ ∃ e u, SamePrivileged s u ∧ t = takeException e u

section
variable {s₀ s : State}

theorem samePrivileged_setReg (h : SamePrivileged s₀ s) (r : Reg) (v : Word) : SamePrivileged s₀ (s.setReg r v) := by
  simpa [SamePrivileged] using h

theorem samePrivileged_setFprS (h : SamePrivileged s₀ s) (r : Reg) (v : BitVec 32) :
    SamePrivileged s₀ (s.setFprS r v) := by
  simpa [SamePrivileged] using h

theorem samePrivileged_mem (h : SamePrivileged s₀ s) (m : MemSys) : SamePrivileged s₀ { s with mem := m } := h

theorem samePrivileged_fcr31 (h : SamePrivileged s₀ s) (f : BitVec 32) : SamePrivileged s₀ { s with fcr31 := f } := h

theorem samePrivileged_link (h : SamePrivileged s₀ s) (b : Bool) (a : PAddr) :
    SamePrivileged s₀ { s with llBit := b, llAddr := a } := h

/-! The shared operations. -/

theorem user_advance (h : SamePrivileged s₀ s) : UserLeaves s₀ (advance s) := .inl h

theorem user_exception (h : SamePrivileged s₀ s) (e : Exc) : UserLeaves s₀ (takeException e s) := .inr ⟨e, s, h, rfl⟩

theorem user_next_advance (h : SamePrivileged s₀ s) : NextIs (UserLeaves s₀) (.next (advance s)) :=
  nextIs_next.2 (user_advance h)

theorem user_raise (h : SamePrivileged s₀ s) {e : Exc} : NextIs (UserLeaves s₀) (raise e s) :=
  nextIs_raise.2 (user_exception h e)

theorem user_writeNext (h : SamePrivileged s₀ s) {r : Reg} {v : Word} :
    NextIs (UserLeaves s₀) (writeNext r v s) := user_next_advance (samePrivileged_setReg h r v)

theorem user_trapIf (h : SamePrivileged s₀ s) {c : Bool} : NextIs (UserLeaves s₀) (trapIf c s) :=
  nextIs_trapIf (fun _ => user_advance h) fun _ => user_exception h _

theorem user_trapOverflow (h : SamePrivileged s₀ s) {x : Option Word} {r : Reg} :
    NextIs (UserLeaves s₀) (trapOverflow x r s) :=
  nextIs_trapOverflow (fun v _ => user_advance (samePrivileged_setReg h r v)) fun _ => user_exception h _

theorem user_branch (h : SamePrivileged s₀ s) {taken likely : Bool} {target : Word} :
    NextIs (UserLeaves s₀) (branch taken likely target s) := by
  refine nextIs_branch fun _ => .inl ?_
  cases taken
  · cases likely
    · exact h
    · exact h
  · exact h

theorem user_branch_link (h : SamePrivileged s₀ s) {taken likely : Bool} {target : Word} {r : Reg} :
    NextIs (UserLeaves s₀) (branch taken likely target (link r s)) :=
  user_branch (samePrivileged_setReg h r _)

theorem user_withCp1 (h : SamePrivileged s₀ s) {r : Res} (hr : NextIs (UserLeaves s₀) r) :
    NextIs (UserLeaves s₀) (withCp1 s r) := nextIs_withCp1 (fun _ => hr) fun _ => user_exception h _

theorem user_withCp1Double (h : SamePrivileged s₀ s) {rs : List Reg} {r : Res} (hr : NextIs (UserLeaves s₀) r) :
    NextIs (UserLeaves s₀) (withCp1 s (withDouble s rs r)) :=
  user_withCp1 h (nextIs_withDouble fun _ => hr)

/-- What CP0 guards is not run: CP0 is not usable (11_cp0_registers.md R150). -/
theorem user_withCp0 (h : SamePrivileged s₀ s) (hu : s.cp0Usable = false) {r : Res} :
    NextIs (UserLeaves s₀) (withCp0 s r) :=
  nextIs_withCp0 (fun hu' => absurd (hu.symm.trans hu') nofun) fun _ => user_exception h _

/-- The performance counters may be read without CP0 (46_cp0_privileged.md R665). -/
theorem user_readCp0 (h : SamePrivileged s₀ s) (hu : s.cp0Usable = false) {rd r : Reg} {v : Word} :
    NextIs (UserLeaves s₀) (readCp0 rd s (writeNext r v s)) :=
  nextIs_ite (user_writeNext h) (user_withCp0 h hu)

/-! Memory. -/

/-- A memory operation writes the memory system only. -/
theorem user_afterMem {α : Type} {r : MemRes α} {k : α → State → Res} (h : SamePrivileged s₀ s)
    (hk : ∀ a t, SamePrivileged s₀ t → NextIs (UserLeaves s₀) (k a t)) :
    NextIs (UserLeaves s₀) (afterMem s r k) :=
  nextIs_afterMem (fun a m _ => hk a _ (samePrivileged_mem h m)) fun e m _ =>
    user_exception (samePrivileged_mem h m) e

theorem user_prefetch (h : SamePrivileged s₀ s) {al : Bool} {va : Word} :
    NextIs (UserLeaves s₀) (prefetch al va s) :=
  nextIs_prefetch (user_advance h) fun _ _ _ _ => user_advance h

theorem user_loadReg (h : SamePrivileged s₀ s) {base rt : Reg} {offset : Imm16} {n : Nat}
    {ext : BitVec 256 → Word} : NextIs (UserLeaves s₀) (loadReg base rt offset n ext s) :=
  nextIs_ite (user_prefetch h) (user_afterMem h fun _ _ ht => user_writeNext ht)

theorem user_loadPart (h : SamePrivileged s₀ s) {rt : Reg} {va start : Word} {n : Nat}
    {into : Word → BitVec 256 → Word} : NextIs (UserLeaves s₀) (loadPart rt va start n into s) :=
  nextIs_ite (user_prefetch h) (user_afterMem h fun _ _ ht => user_writeNext ht)

theorem user_storeMem (h : SamePrivileged s₀ s) {base : Reg} {offset : Imm16} {n : Nat} {v : Word} :
    NextIs (UserLeaves s₀) (storeMem base offset n v s) := user_afterMem h fun _ _ ht => user_next_advance ht

theorem user_storePart (h : SamePrivileged s₀ s) {va start : Word} {n : Nat} {v : Word} :
    NextIs (UserLeaves s₀) (storePart va start n v s) := user_afterMem h fun _ _ ht => user_next_advance ht

theorem user_loadLinked (h : SamePrivileged s₀ s) {base rt : Reg} {offset : Imm16} {n : Nat}
    {ext : BitVec 256 → Word} : NextIs (UserLeaves s₀) (loadLinked base rt offset n ext s) := by
  unfold loadLinked
  dsimp only
  split
  · exact user_afterMem h fun _ _ ht => user_writeNext (samePrivileged_link ht _ _)
  · exact user_raise h
  · exact nextIs_fault _

theorem user_storeConditional (h : SamePrivileged s₀ s) {base rt : Reg} {offset : Imm16} {n : Nat} :
    NextIs (UserLeaves s₀) (storeConditional base rt offset n s) :=
  nextIs_storeConditional
    (fun _ _ m _ _ => user_advance
      (samePrivileged_setReg (samePrivileged_link (samePrivileged_mem h m) false s.llAddr) _ _))
    (user_advance (samePrivileged_setReg (samePrivileged_link h false s.llAddr) _ _)) (user_exception h)
    fun _ _ e m _ => user_exception (samePrivileged_mem h m) e

/-! Floating point. -/

theorem user_fpFinish (h : SamePrivileged s₀ s) {o : FpOut} {write : State → State}
    (hw : ∀ t, SamePrivileged s₀ t → SamePrivileged s₀ (write t)) :
    NextIs (UserLeaves s₀) (fpFinish s o write) :=
  nextIs_fpFinish (user_advance (hw _ (samePrivileged_fcr31 h _))) (user_exception (samePrivileged_fcr31 h _) _)

theorem user_fpFinishS (h : SamePrivileged s₀ s) {fd : Reg} {o : FpOut} :
    NextIs (UserLeaves s₀) (fpFinishS s fd o) := user_fpFinish h fun _ ht => samePrivileged_setFprS ht _ _

theorem user_fpFinishD (h : SamePrivileged s₀ s) {fd : Reg} {o : FpOut} :
    NextIs (UserLeaves s₀) (fpFinishD s fd o) := user_fpFinish h fun _ ht => ht

theorem user_fpFinishC (h : SamePrivileged s₀ s) {r : Bool × Bool} :
    NextIs (UserLeaves s₀) (fpFinishC s r) := user_fpFinish h fun _ ht => ht

theorem user_fpFinishCPs (h : SamePrivileged s₀ s) {lo hi : Bool × Bool} :
    NextIs (UserLeaves s₀) (fpFinishCPs s lo hi) := user_fpFinish h fun _ ht => ht

theorem user_execCfc1 (h : SamePrivileged s₀ s) {rt fs : Reg} : NextIs (UserLeaves s₀) (execCfc1 rt fs s) :=
  user_withCp1 h (nextIs_ite (user_writeNext h) (nextIs_ite (user_writeNext h) (nextIs_fault _)))

theorem user_execCtc1 (h : SamePrivileged s₀ s) {rt fs : Reg} : NextIs (UserLeaves s₀) (execCtc1 rt fs s) :=
  have hf := samePrivileged_fcr31 h (lo32 (s.reg rt) &&& fcrMask)
  user_withCp1 h (nextIs_ite (nextIs_ite (user_raise hf) (user_next_advance hf))
    (nextIs_ite (user_next_advance h) (nextIs_fault _)))

/-! The instruction set. -/

/-- Every instruction: one line per shape of meaning; those of CP0 are the ones that find it unusable. -/
theorem user_exec (h : SamePrivileged s₀ s) (hu : s.cp0Usable = false) (hc : s.userCache = false) (i : Instr) :
    NextIs (UserLeaves s₀) (exec i s) := by
  cases i with
  | lb | lbu | lh | lhu | lw | lwu | ld => exact user_loadReg h
  | lwl | lwr | ldl | ldr =>
    dsimp only [exec, execLwl, execLwr, execLdl, execLdr]
    exact user_loadPart h
  | sb | sh | sw | sd => exact user_storeMem h
  | swl | swr | sdl | sdr => exact user_storePart h
  | ll | lld => exact user_loadLinked h
  | sc | scd => exact user_storeConditional h
  | sync => exact user_afterMem h fun _ _ ht => user_next_advance ht
  | lwc1 => exact user_withCp1 h (user_afterMem h fun _ _ ht => user_next_advance (samePrivileged_setFprS ht _ _))
  | ldc1 => exact user_withCp1Double h (user_afterMem h fun _ t ht => user_next_advance (s := t.setFprAt _ _) ht)
  | swc1 => exact user_withCp1 h (user_storeMem h)
  | sdc1 => exact user_withCp1Double h (user_storeMem h)
  | addiu | daddiu | slti | sltiu | andi | ori | xori | lui
  | addu | daddu | subu | dsubu | slt | sltu | and | or | xor | nor
  | mfhi | mflo | multg | dmultg | multug | dmultug | divg | ddivg | divug | ddivug
  | modg | dmodg | modug | dmodug
  | sll | srl | sra | dsll | dsrl | dsra | dsll32 | dsrl32 | dsra32
  | sllv | srlv | srav | dsllv | dsrlv | dsrav => exact user_writeNext h
  | addi | daddi | add | dadd | sub | dsub => exact user_trapOverflow h
  | movz => exact nextIs_ite (user_writeNext h) (user_next_advance h)
  | movn => exact nextIs_ite (user_next_advance h) (user_writeNext h)
  | mult | multu | dmult | dmultu | div | divu | ddiv | ddivu => exact nextIs_writeHiLo.2 (.inl h)
  | mthi | mtlo => exact nextIs_next.2 (.inl h)
  | j | jr | beq | bne | beql | bnel | blez | bgtz | blezl | bgtzl | bltz | bgez | bltzl | bgezl =>
    exact user_branch h
  | jal | jalr | bltzal | bgezal | bltzall | bgezall => exact user_branch_link h
  | bc1f | bc1t | bc1fl | bc1tl => exact user_withCp1 h (user_branch h)
  | syscall | brk => exact user_raise h
  | tge | tgeu | tlt | tltu | teq | tne | tgei | tgeiu | tlti | tltiu | teqi | tnei => exact user_trapIf h
  | mfc0 | dmfc0 => exact user_readCp0 h hu
  | mtc0 | dmtc0 | tlbp | tlbr | tlbwi | tlbwr | eret => exact user_withCp0 h hu
  | cache =>
    have hguard : ∀ b, ¬((s.cp0Usable || (s.userCache && b)) = true) := by simp [hu, hc]
    dsimp only [exec, execCache]
    rw [if_neg (hguard _)]
    exact user_raise h
  | addS | subS | mulS | maddS | msubS | nmaddS | nmsubS
  | absS | negS | roundWS | truncWS | ceilWS | floorWS | cvtWS | cvtSW =>
    exact user_withCp1 h (user_fpFinishS h)
  | roundWD | truncWD | ceilWD | floorWD | cvtWD | cvtSD | cvtSL =>
    exact user_withCp1Double h (user_fpFinishS h)
  | addD | subD | mulD | maddD | msubD | nmaddD | nmsubD
  | addPs | subPs | mulPs | maddPs | msubPs | nmaddPs | nmsubPs
  | absD | negD | absPs | negPs | roundLD | truncLD | ceilLD | floorLD | cvtLD | cvtDL
  | roundLS | truncLS | ceilLS | floorLS | cvtLS | cvtDS | cvtDW =>
    exact user_withCp1Double h (user_fpFinishD h)
  | divS | sqrtS =>
    exact user_withCp1 h (nextIs_ite (nextIs_refused _) (user_withCp1 h (user_fpFinishS h)))
  | divD | sqrtD =>
    exact user_withCp1 h (nextIs_ite (nextIs_refused _) (user_withCp1Double h (user_fpFinishD h)))
  | cFS | cUnS | cEqS | cUeqS | cOltS | cUltS | cOleS | cUleS
  | cSfS | cNgleS | cSeqS | cNglS | cLtS | cNgeS | cLeS | cNgtS => exact user_withCp1 h (user_fpFinishC h)
  | cFD | cUnD | cEqD | cUeqD | cOltD | cUltD | cOleD | cUleD
  | cSfD | cNgleD | cSeqD | cNglD | cLtD | cNgeD | cLeD | cNgtD =>
    exact user_withCp1Double h (user_fpFinishC h)
  | cFPs | cUnPs | cEqPs | cUeqPs | cOltPs | cUltPs | cOlePs | cUlePs
  | cSfPs | cNglePs | cSeqPs | cNglPs | cLtPs | cNgePs | cLePs | cNgtPs =>
    exact user_withCp1Double h (user_fpFinishCPs h)
  | movS | mtc1 => exact user_withCp1 h (user_next_advance (samePrivileged_setFprS h _ _))
  | movD | movPs | dmtc1 => exact user_withCp1Double h (nextIs_next.2 (.inl h))
  | mfc1 => exact user_withCp1 h (user_writeNext h)
  | dmfc1 => exact user_withCp1Double h (user_writeNext h)
  | cfc1 => exact user_execCfc1 h
  | ctc1 => exact user_execCtc1 h

end

/-! Exception entry. -/

theorem setBit_true {w : Nat} (x : BitVec w) (i : Nat) : setBit x i true = x ||| BitVec.twoPow w i := by
  ext j hj
  cases h : (BitVec.twoPow w i)[j] <;> simp [setBit, merge, h]

theorem takeException_status (e : Exc) (s : State) : (takeException e s).cp0.status = s.cp0.status ||| 2 := by
  have hkeep : (entryAddress s.params s.tick e (entryCause e (entryPc s s.cp0))).status = s.cp0.status := by
    unfold entryAddress entryCause entryPc
    dsimp only
    cases s.exl <;> cases e <;> rfl
  exact (congrArg (setBit · 1 true) hkeep).trans (setBit_true _ _)

theorem takeException_exl (e : Exc) (s : State) : (takeException e s).exl = true := by
  unfold State.exl
  rw [takeException_status]
  simp

/-- The vectors of 60_exceptions.md R834, added up. -/
theorem excVector_cases (bev exl : Bool) (e : Exc) :
    excVector bev exl e = (if bev then 0xFFFFFFFFBFC00200 else 0xFFFFFFFF80000000)
      ∨ excVector bev exl e = (if bev then 0xFFFFFFFFBFC00380 else 0xFFFFFFFF80000180) := by
  unfold excVector
  cases excRefill e && !exl
  · cases bev
    · exact .inr rfl
    · exact .inr rfl
  · exact .inl (BitVec.add_zero _)

/-- Settles O12: in user mode CP0 is not usable, so whatever runs leaves CP0 and the TLBs until an exception. -/
theorem userChangesNoCp0 : Obligations.UserChangesNoCp0 := by
  intro i s t hmode hcu hdiag ht
  have husable : s.cp0Usable = false := by simp [State.cp0Usable, hmode, hcu]
  have hcache : s.userCache = false := by simp [State.userCache, hdiag]
  obtain ⟨hcp0, htlb, hitlb⟩ | ⟨e, u, ⟨hcp0, htlb, hitlb⟩, rfl⟩ :=
    user_exec (s₀ := s) ⟨rfl, rfl, rfl⟩ husable hcache i t ht
  · exact ⟨htlb, hitlb, .inl hcp0⟩
  · have hbev : u.bev = s.bev := congrArg (·.status.getLsbD 22) hcp0
    exact ⟨htlb, hitlb, .inr ⟨takeException_exl e u, hbev ▸ excVector_cases u.bev u.exl e⟩⟩

end Sys2Proof.Machine
end

section
/-! SUPPORT. Fields of a word read back after a field is written (11_cp0_registers.md R190). -/

namespace Sys2Proof.Machine

section
variable {w : Nat} {mask : BitVec w} {i n : Nat}

theorem extractLsb'_merge_in (x v : BitVec w) (h : mask.extractLsb' i n = BitVec.allOnes n) :
    (merge mask x v).extractLsb' i n = v.extractLsb' i n := by
  refine BitVec.eq_of_getLsbD_eq fun j hj => ?_
  have hm := congrArg (·.getLsbD j) h
  simp only [BitVec.getLsbD_extractLsb', BitVec.getLsbD_allOnes, hj, decide_true, Bool.true_and] at hm
  simp only [BitVec.getLsbD_extractLsb', getLsbD_merge, hm, if_true]

theorem extractLsb'_merge_out (x v : BitVec w) (h : mask.extractLsb' i n = 0#n) :
    (merge mask x v).extractLsb' i n = x.extractLsb' i n := by
  refine BitVec.eq_of_getLsbD_eq fun j hj => ?_
  have hm := congrArg (·.getLsbD j) h
  simp only [BitVec.getLsbD_extractLsb', BitVec.getLsbD_zero, hj, decide_true, Bool.true_and] at hm
  simp only [BitVec.getLsbD_extractLsb', getLsbD_merge, hm, Bool.false_eq_true, if_false]

theorem merge_and_disjoint {keep : BitVec w} (x v : BitVec w) (h : mask &&& keep = 0#w) :
    merge mask x v &&& keep = x &&& keep := by
  refine BitVec.eq_of_getLsbD_eq fun j _ => ?_
  have hm := congrArg (·.getLsbD j) h
  simp only [BitVec.getLsbD_and, BitVec.getLsbD_zero, Bool.and_eq_false_iff] at hm ⊢
  obtain hm | hm := hm
  · simp only [getLsbD_merge, hm, Bool.false_eq_true, if_false]
  · simp only [hm, Bool.and_false]

/-- A value put at bit `i`. -/
theorem extractLsb'_setWidth_shiftLeft {v j : Nat} (x : BitVec v) (hw : i + j + n ≤ w) :
    (x.setWidth w <<< i).extractLsb' (i + j) n = x.extractLsb' j n := by
  refine BitVec.eq_of_getLsbD_eq fun k hk => ?_
  simp only [BitVec.getLsbD_extractLsb', BitVec.getLsbD_shiftLeft, BitVec.getLsbD_setWidth, hk, decide_true,
    Bool.true_and, show i + j + k < w by omega, show ¬i + j + k < i by omega, decide_false, Bool.not_false,
    show i + j + k - i = j + k by omega, show j + k < w by omega]

end

end Sys2Proof.Machine
end

section
/-! SUPPORT. O13, O15: exception entry register by register (60_exceptions.md R840, R843). -/

namespace Sys2Proof.Machine

section
variable (e : Exc) (s : State)

/-- The registers an exception writes, and no other (R840, R843). -/
theorem takeException_cp0_frame :
    { (takeException e s).cp0 with
      epc := s.cp0.epc, cause := s.cp0.cause, status := s.cp0.status, badVAddr := s.cp0.badVAddr
      context := s.cp0.context, xcontext := s.cp0.xcontext, entryHi := s.cp0.entryHi
      entryLo0 := s.cp0.entryLo0, entryLo1 := s.cp0.entryLo1 } = s.cp0 := by
  unfold takeException entryPc
  split
  · cases e <;> rfl
  · cases e <;> rfl

/-- Before the address registers are written, only EPC and Cause are (R840). -/
theorem entryCause_entryPc_frame :
    { entryCause e (entryPc s s.cp0) with epc := s.cp0.epc, cause := s.cp0.cause } = s.cp0 := by
  unfold entryPc
  split
  · cases e <;> rfl
  · cases e <;> rfl

theorem takeException_epc : (takeException e s).cp0.epc = (entryPc s s.cp0).epc := by cases e <;> rfl

theorem takeException_cause : (takeException e s).cp0.cause = (entryCause e (entryPc s s.cp0)).cause := by
  cases e <;> rfl

/-- Outside an exception level EPC and BD name the victim, or the branch before it (R840). -/
theorem entryPc_of_not_exl (c : Cp0) (h : s.exl = false) : entryPc s c =
    { c with epc := if s.inSlot then s.pc - 4 else s.pc, cause := setBit c.cause 31 s.inSlot } :=
  if_neg (by simp [h])

theorem entryPc_of_exl (c : Cp0) (h : s.exl = true) : entryPc s c = c := if_pos h

/-- Of Cause the entry's first part writes BD only. -/
theorem entryPc_cause_and {keep : BitVec 32} (c : Cp0) (h : BitVec.twoPow 32 31 &&& keep = 0) :
    (entryPc s c).cause &&& keep = c.cause &&& keep := by
  cases hx : s.exl with
  | false => rw [entryPc_of_not_exl s c hx]; exact merge_and_disjoint _ _ h
  | true => rw [entryPc_of_exl s c hx]

end

/-! Cause. -/

/-- Of Cause the entry's second part writes ExcCode and CE only. -/
theorem entryCause_and {keep : BitVec 32} (e : Exc) (c : Cp0) (hcode : 0x7C &&& keep = 0)
    (hunit : 0x30000000 &&& keep = 0) : (entryCause e c).cause &&& keep = c.cause &&& keep := by
  unfold entryCause
  cases excUnit e with
  | none => exact merge_and_disjoint _ _ hcode
  | some u => exact (merge_and_disjoint _ _ hunit).trans (merge_and_disjoint _ _ hcode)

/-- A single bit read through a mask that holds it. -/
theorem getLsbD_of_and_eq {w : Nat} {x y keep : BitVec w} (h : x &&& keep = y &&& keep) {i : Nat}
    (hi : keep.getLsbD i = true) : x.getLsbD i = y.getLsbD i := by
  have hbit := congrArg (·.getLsbD i) h
  simpa only [BitVec.getLsbD_and, hi, Bool.and_true] using hbit

theorem takeException_cause_bd (e : Exc) (s : State) :
    (takeException e s).cp0.cause.getLsbD 31 = (entryPc s s.cp0).cause.getLsbD 31 := by
  rw [takeException_cause]
  exact getLsbD_of_and_eq (keep := 0x80000000) (entryCause_and e _ (by decide) (by decide)) (by decide)

theorem entryCause_code (e : Exc) (c : Cp0) : (entryCause e c).cause.extractLsb' 2 5 = excCode e := by
  have hcode : (merge 0x7C c.cause ((excCode e).setWidth 32 <<< 2)).extractLsb' 2 5 = excCode e :=
    (extractLsb'_merge_in _ _ (by decide)).trans
      ((extractLsb'_setWidth_shiftLeft (i := 2) (j := 0) _ (by decide)).trans BitVec.extractLsb'_eq_self)
  unfold entryCause
  cases excUnit e with
  | none => exact hcode
  | some u => exact (extractLsb'_merge_out _ _ (by decide)).trans hcode

theorem entryCause_unit (e : Exc) (c : Cp0) :
    (entryCause e c).cause.extractLsb' 28 2 = (excUnit e).getD (c.cause.extractLsb' 28 2) := by
  unfold entryCause
  cases excUnit e with
  | none => exact extractLsb'_merge_out _ _ (by decide)
  | some u =>
    exact (extractLsb'_merge_in _ _ (by decide)).trans
      ((extractLsb'_setWidth_shiftLeft (i := 28) (j := 0) _ (by decide)).trans BitVec.extractLsb'_eq_self)

theorem entryPc_unit (s : State) (c : Cp0) : (entryPc s c).cause.extractLsb' 28 2 = c.cause.extractLsb' 28 2 := by
  cases hx : s.exl with
  | false => rw [entryPc_of_not_exl s c hx]; exact extractLsb'_merge_out _ _ (by decide)
  | true => rw [entryPc_of_exl s c hx]

/-! The address registers. -/

/-- An exception that records no address keeps the registers of R843. -/
theorem takeException_addresses {e : Exc} (s : State) (hb : excBadVa e = none) (ht : excTlbVa e = none) :
    { (takeException e s).cp0 with epc := s.cp0.epc, cause := s.cp0.cause, status := s.cp0.status } = s.cp0 := by
  have h := entryCause_entryPc_frame e s
  have haddress : entryAddress s.params s.tick e (entryCause e (entryPc s s.cp0))
      = entryCause e (entryPc s s.cp0) := by
    simp only [entryAddress, hb, ht]
  unfold takeException
  rw [haddress]
  exact congrArg (fun c : Cp0 => { c with status := s.cp0.status }) h

/-- Settles O13: the entry's three parts one after the other, each with what it writes and what it leaves. -/
theorem exceptionEntry : Obligations.ExceptionEntry := by
  intro e s t
  refine ⟨fun hx => ⟨?_, ?_⟩, fun hx => ⟨?_, ?_⟩, ?_, ?_, ?_, ?_, takeException_cp0_frame e s,
    takeException_status e s, rfl, rfl, rfl, rfl⟩
  · rw [takeException_epc, entryPc_of_not_exl s _ hx]
  · rw [takeException_cause_bd, entryPc_of_not_exl s _ hx, getLsbD_setBit, if_pos (by decide)]
  · rw [takeException_epc, entryPc_of_exl s _ hx]
  · rw [takeException_cause_bd, entryPc_of_exl s _ hx]
  · rw [takeException_cause, entryCause_code]
    cases e with
    | tlbRefill b | tlbInvalid b | addressError b | busError b => cases b <;> rfl
    | int | tlbModified | syscall | breakpoint | reserved | coprocessor | overflow | trap | fpe | watch => rfl
  · rw [takeException_cause, entryCause_unit, entryPc_unit]
    cases e <;> rfl
  · rw [takeException_cause, entryCause_and e _ (by decide) (by decide), entryPc_cause_and s _ (by decide)]
  · have hkept (hb : excBadVa e = none) (ht : excTlbVa e = none) :
        t.cp0.badVAddr = s.cp0.badVAddr ∧ t.cp0.context = s.cp0.context ∧ t.cp0.xcontext = s.cp0.xcontext
          ∧ t.cp0.entryHi = s.cp0.entryHi ∧ t.cp0.entryLo0 = s.cp0.entryLo0 ∧ t.cp0.entryLo1 = s.cp0.entryLo1 := by
      have h := takeException_addresses s hb ht
      exact ⟨congrArg (·.badVAddr) h, congrArg (·.context) h, congrArg (·.xcontext) h, congrArg (·.entryHi) h,
        congrArg (·.entryLo0) h, congrArg (·.entryLo1) h⟩
    cases e with
    | tlbRefill | tlbInvalid | tlbModified | addressError => trivial
    | int | busError | syscall | breakpoint | reserved | coprocessor | overflow | trap | fpe | watch =>
      exact hkept rfl rfl

end Sys2Proof.Machine
end

section
/-! SUPPORT. O14, O15, O16, O17: the vector, the registers of a TLB exception, and what comes before the
instruction (60_exceptions.md R834, R843, R850, R880). -/

namespace Sys2Proof.Machine

theorem excRefill_iff (e : Exc) : excRefill e = true ↔ ∃ st va, e = .tlbRefill st va := by
  cases e <;> simp [excRefill]

/-- Settles O14: the refill's own offset is asked of the same two facts. -/
theorem exceptionVector : Obligations.ExceptionVector := by
  have hreset : (0x30400004 : BitVec 32).getLsbD 22 = true := by decide
  refine ⟨fun bev exl e => ?_, fun e s => rfl, fun p => hreset⟩
  have hoffset : (excRefill e && !exl) = true ↔ (∃ st va, e = .tlbRefill st va) ∧ exl = false := by
    rw [Bool.and_eq_true, excRefill_iff, Bool.not_eq_true']
  simp only [excVector, hoffset]

/-- Settles O15: an exception that records `va` writes fields of `va` into fields of the old registers. -/
theorem tlbExceptionRegisters : Obligations.TlbExceptionRegisters := by
  intro s va st
  have hkept (e : Exc) := entryCause_entryPc_frame e s
  refine ⟨fun e he => ?_, rfl, congrArg (·.context) (hkept _), congrArg (·.xcontext) (hkept _),
    congrArg (·.entryHi) (hkept _), congrArg (·.entryLo0) (hkept _), congrArg (·.entryLo1) (hkept _)⟩
  obtain ⟨hbad, htlb⟩ : excBadVa e = some va ∧ excTlbVa e = some va := by
    simp only [List.mem_cons, List.not_mem_nil, or_false] at he
    obtain rfl | rfl | rfl := he <;> exact ⟨rfl, rfl⟩
  have hc : (takeException e s).cp0 = { tlbRecord s.params s.tick va
      { entryCause e (entryPc s s.cp0) with badVAddr := va } with
      status := (takeException e s).cp0.status } := by
    simp only [takeException, entryAddress, hbad, htlb]
  have hcontext : (entryCause e (entryPc s s.cp0)).context = s.cp0.context := congrArg (·.context) (hkept e)
  have hxcontext : (entryCause e (entryPc s s.cp0)).xcontext = s.cp0.xcontext := congrArg (·.xcontext) (hkept e)
  have hentryHi : (entryCause e (entryPc s s.cp0)).entryHi = s.cp0.entryHi := congrArg (·.entryHi) (hkept e)
  intro c
  have hx (j n : Nat) (hj : 4 + j + n ≤ 64) := extractLsb'_setWidth_shiftLeft (w := 64) (i := 4) (j := j) (n := n)
    (va.extractLsb' 62 2 ++ va.extractLsb' 13 27) hj
  have hpage : c.pageMask = s.cp0.pageMask := congrArg (·.pageMask) (takeException_cp0_frame e s)
  have hindex : c.index = s.cp0.index := congrArg (·.index) (takeException_cp0_frame e s)
  refine ⟨?_, ?_, ?_, ?_, ?_, ?_, ?_, ?_, ?_, hpage, hindex⟩
  all_goals
    subst c
    rw [hc]
    simp only [tlbRecord, hcontext, hxcontext, hentryHi]
  · exact (extractLsb'_merge_in _ _ (by decide)).trans
      ((extractLsb'_setWidth_shiftLeft (i := 4) (j := 0) _ (by decide)).trans BitVec.extractLsb'_eq_self)
  · exact extractLsb'_merge_out _ _ (by decide)
  · exact (extractLsb'_merge_in _ _ (by decide)).trans
      ((hx 0 27 (by decide)).trans BitVec.extractLsb'_append_eq_right)
  · exact (extractLsb'_merge_in _ _ (by decide)).trans
      ((hx 27 2 (by decide)).trans BitVec.extractLsb'_append_eq_left)
  · exact extractLsb'_merge_out _ _ (by decide)
  · exact extractLsb'_merge_in _ _ (by decide)
  · exact extractLsb'_merge_in _ _ (by decide)
  · exact extractLsb'_merge_out _ _ (by decide)

/-! What comes before the instruction. -/

theorem coreStep_of_nmi {s : State} (hm : s.mode ≠ none) (hn : s.nmi = true) : coreStep s = .next (takeNmi s) :=
  (if_neg hm).trans (if_pos hn)

theorem coreStep_of_interrupt {s : State} (hm : s.mode ≠ none) (hn : s.nmi = false)
    (hi : interruptPending s = true) : coreStep s = .next (takeException .int s) :=
  (if_neg hm).trans ((if_neg (by simp [hn])).trans (if_pos hi))

theorem coreStep_of_none {s : State} (hm : s.mode ≠ none) (hn : s.nmi = false)
    (hi : interruptPending s = false) : coreStep s = runNext s :=
  (if_neg hm).trans ((if_neg (by simp [hn])).trans (if_neg (by simp [hi])))

/-- Settles O16: the NMI comes before the interrupt and the instruction. -/
theorem nmiEntry : Obligations.NmiEntry := by
  intro s hm hn
  refine ⟨takeNmi s, coreStep_of_nmi hm hn, rfl, ?_, rfl, rfl, rfl, rfl, rfl⟩
  simp only [takeNmi, setBit_true, BitVec.or_assoc]
  rfl

/-- The bits of Cause.IP as software reads them (11_cp0_registers.md R192). -/
theorem causeView_ip (s : State) {k : Nat} (hk : k < 8) : s.causeView.getLsbD (8 + k) = s.ip.getLsbD k := by
  have hmask : ∀ k, k < 8 → (0xFF00 : BitVec 32).getLsbD (8 + k) = true := by decide
  rw [State.causeView, getLsbD_merge, if_pos (hmask k hk)]
  simp [show 8 + k < 32 by omega]

/-- Some bit of Cause.IP is enabled by the bit of Status.IM under it (60_exceptions.md R880). -/
theorem ip_and_im_ne_zero_iff (s : State) : (s.ip &&& s.cp0.status.extractLsb' 8 8) ≠ 0 ↔
    ∃ k, k < 8 ∧ s.causeView.getLsbD (8 + k) = true ∧ s.cp0.status.getLsbD (8 + k) = true := by
  have hbit (k : Nat) (hk : k < 8) : (s.ip &&& s.cp0.status.extractLsb' 8 8).getLsbD k
      = (s.causeView.getLsbD (8 + k) && s.cp0.status.getLsbD (8 + k)) := by
    rw [causeView_ip s hk, BitVec.getLsbD_and, BitVec.getLsbD_extractLsb']
    simp only [hk, decide_true, Bool.true_and]
  constructor
  · intro h
    by_contra hnone
    refine h (BitVec.eq_of_getLsbD_eq fun k hk => (hbit k hk).trans ?_)
    simpa using fun hc hs => hnone ⟨k, hk, hc, hs⟩
  · rintro ⟨k, hk, hcause, him⟩ h
    have hk' := hbit k hk
    simp [h, hcause, him] at hk'

theorem interruptPending_iff (s : State) : interruptPending s = true ↔
    s.cp0.status.getLsbD 0 = true ∧ s.cp0.status.getLsbD 1 = false ∧ s.cp0.status.getLsbD 2 = false
      ∧ ∃ k, k < 8 ∧ s.causeView.getLsbD (8 + k) = true ∧ s.cp0.status.getLsbD (8 + k) = true := by
  rw [← ip_and_im_ne_zero_iff]
  simp only [interruptPending, State.ie, State.exl, State.erl, Bool.and_eq_true, Bool.not_eq_true', bne_iff_ne,
    and_assoc]

/-- Settles O17: the four conditions are `interruptPending`, asked after the NMI and before the instruction. -/
theorem interruptTaken : Obligations.InterruptTaken := by
  refine ⟨fun s hm hn hie hexl herl hip =>
    coreStep_of_interrupt hm hn ((interruptPending_iff s).2 ⟨hie, hexl, herl, hip⟩), fun s hm hn h => ?_⟩
  refine coreStep_of_none hm hn (Bool.eq_false_iff.2 fun hp => ?_)
  obtain ⟨hie, hexl, herl, k, hk, hcause, him⟩ := (interruptPending_iff s).1 hp
  obtain h | h | h | h := h
  · exact Bool.false_ne_true (h.symm.trans hie)
  · exact Bool.false_ne_true (hexl.symm.trans h)
  · exact Bool.false_ne_true (herl.symm.trans h)
  · exact Bool.false_ne_true ((h k hk hcause).symm.trans him)

end Sys2Proof.Machine
end

section
/-! SUPPORT. O4, O18, O59: the chip's registers, the interrupt lines and what a step ends with (61_platform.md
R922, R940, R976, 60_exceptions.md R836). -/

namespace Sys2Proof.Machine

/-! Registers of the chip. -/

theorem io_setIo (c : Chip) (i j : Fin 64) (v : BitVec 32) :
    (c.setIo i v).io j = if j = i then v else c.io j := by
  by_cases hj : j = i
  · subst hj
    simp [Chip.io, Chip.setIo]
  · have hne : i.val ≠ j.val := fun h => hj (Fin.ext h.symm)
    simp [Chip.io, Chip.setIo, hj, hne]

/-! The DDR2 controller's step (61_platform.md R922). -/

theorem merge_self {w : Nat} (mask x : BitVec w) : merge mask x x = x := by
  refine BitVec.eq_of_getLsbD_eq fun i _ => ?_
  rw [getLsbD_merge, ite_self]

/-- A field written and then taken from the old word again. -/
theorem merge_merge_back {w : Nat} (mask x v : BitVec w) : merge mask (merge mask x v) x = x := by
  refine BitVec.eq_of_getLsbD_eq fun i _ => ?_
  simp only [getLsbD_merge]
  cases mask.getLsbD i <;> rfl

/-- The registers a lock leaves: CONF_CTL_15 and the DLL bit of CONF_CTL_16 apart, the old ones (R924, R926). -/
theorem ddrRegs_lock (c : Chip) (r15 : Word) :
    let r := (c.setUnlocked false).ddrRegs.set 15 r15
    (r.set 15 c.ddrRegs[15]).set 16 (merge (0x0200000000000000 : Word) r[16] c.ddrRegs[16]) = c.ddrRegs := by
  have hbit : (0x0200000000000000 : Word) = BitVec.twoPow 64 57 := by decide
  refine Vector.ext fun i hi => ?_
  by_cases h16 : 16 = i
  · subst h16
    simp [Chip.setUnlocked, setBit, hbit, merge_merge_back]
  · by_cases h15 : 15 = i
    · subst h15
      simp
    · simp [Chip.setUnlocked, h15, h16]

theorem ddrRegs_same (r : Vector Word 29) (mask : Word) :
    (r.set 15 r[15]).set 16 (merge mask r[16] r[16]) = r := by
  rw [Vector.set_getElem_self, merge_self, Vector.set_getElem_self]

theorem tickDdr_frame (tick : Nat) (c : Chip) :
    { tickDdr tick c with
      ddrReady := c.ddrReady, ddrWait := c.ddrWait
      ddrRegs := ((tickDdr tick c).ddrRegs.set 15 c.ddrRegs[15]).set 16
        (merge (0x0200000000000000 : Word) (tickDdr tick c).ddrRegs[16] c.ddrRegs[16]) } = c := by
  obtain ⟨-, h⟩ | ⟨-, -, ⟨r15, h⟩ | ⟨-, h⟩⟩ := tickDdr_cases tick c
  · rw [h, ddrRegs_same]
  · rw [h]
    exact congrArg (fun r => { c with ddrRegs := r }) (ddrRegs_lock c r15)
  · rw [h]
    exact congrArg (fun r => { c with ddrRegs := r }) (ddrRegs_same c.ddrRegs _)

/-! The end of a step (60_exceptions.md R836). -/

theorem finish_cp0_frame (s t : State) :
    { (finish s t).cp0 with
      random := t.cp0.random, randomFresh := t.cp0.randomFresh, count := t.cp0.count
      countWait := t.cp0.countWait, timer := t.cp0.timer, perfCnt0 := t.cp0.perfCnt0
      perfCnt1 := t.cp0.perfCnt1 } = t.cp0 := by
  unfold finish tickPerf tickRandom
  split
  · split <;> rfl
  · split <;> rfl

/-- Settles O4: with nothing before it, a step is the fetched word's instruction, and `finish` has its frame. -/
theorem stepRunsDecoded : Obligations.StepRunsDecoded := by
  intro s s1 s2 w i henv hstandby hmode hnmi hint hfetch hdecode
  have hcore : coreStep s1 = exec i s2 := by
    rw [coreStep_of_none hmode hnmi hint, runNext, hfetch]
    simp only [runWord, hdecode]
  have hstep : step s = finished s1 (exec i s2) := by
    rw [step, henv, ← hcore]
    exact if_neg (by simp [hstandby])
  refine ⟨hstep, fun t ht => ⟨finish s1 t, by rw [hstep, ht]; rfl, ?_⟩⟩
  exact congrArg₂ (fun c chip => { t with cp0 := c, mem := { t.mem with chip := chip } })
    (finish_cp0_frame s1 t) (tickDdr_frame t.tick t.mem.chip)

/-! The interrupt lines (61_platform.md R940). -/

theorem getLsbD_lines (c : Chip) {k : Nat} (hk : k < 4) : c.lines.getLsbD k = c.intisr.getLsbD (11 + k) := by
  rw [Chip.lines, BitVec.getLsbD_append, if_pos hk, BitVec.getLsbD_extractLsb']
  simp only [hk, decide_true, Bool.true_and]

theorem getLsbD_lines_four (c : Chip) : c.lines.getLsbD 4 = true ↔
    ∃ i, i < 11 ∧ c.intisr.getLsbD i = true ∧ (c.io 14).getLsbD i = true := by
  have htop : c.lines.getLsbD 4 = ((c.intisr.extractLsb' 0 11 &&& c.inten) != 0) := by
    rw [Chip.lines, BitVec.getLsbD_append, if_neg (by decide)]
    exact BitVec.getLsbD_ofBool _ 0
  have hbit (i : Nat) (hi : i < 11) : (c.intisr.extractLsb' 0 11 &&& c.inten).getLsbD i
      = (c.intisr.getLsbD i && (c.io 14).getLsbD i) := by
    simp [Chip.inten, hi, -BitVec.getLsbD_eq_getElem]
  rw [htop, bne_iff_ne]
  constructor
  · intro h
    by_contra hnone
    refine h (BitVec.eq_of_getLsbD_eq fun i hi => (hbit i hi).trans ?_)
    simpa using fun hsource hen => hnone ⟨i, hi, hsource, hen⟩
  · rintro ⟨i, hi, hsource, hen⟩ h
    have hi' := hbit i hi
    simp [h, hsource, hen] at hi'

/-- Some line to the core is high. -/
theorem lines_ne_zero_iff (c : Chip) : c.lines ≠ 0 ↔ (∃ k, k < 4 ∧ c.intisr.getLsbD (11 + k) = true)
    ∨ ∃ i, i < 11 ∧ c.intisr.getLsbD i = true ∧ (c.io 14).getLsbD i = true := by
  rw [← getLsbD_lines_four]
  constructor
  · intro h
    by_contra hnone
    rw [not_or] at hnone
    obtain ⟨hlow, htop⟩ := hnone
    refine h (BitVec.eq_of_getLsbD_eq fun i hi => ?_)
    by_cases h4 : i = 4
    · simpa [h4] using htop
    · have hk : i < 4 := by omega
      rw [getLsbD_lines c hk]
      simpa using fun hb => hlow ⟨i, hk, hb⟩
  · rintro (⟨k, hk, hb⟩ | hb) h
    · rw [← getLsbD_lines c hk, h] at hb
      simp at hb
    · rw [h] at hb
      simp at hb

/-! Cause as software reads it (11_cp0_registers.md R192). -/

theorem getLsbD_ip_low (s : State) {k : Nat} (hk : k < 2) : s.ip.getLsbD k = s.cp0.cause.getLsbD (8 + k) := by
  rw [State.ip, BitVec.getLsbD_append, if_pos hk, BitVec.getLsbD_extractLsb']
  simp only [hk, decide_true, Bool.true_and]

theorem getLsbD_ip_lines (s : State) {k : Nat} (hk : k < 5) : s.ip.getLsbD (2 + k) =
    (s.mem.chip.lines.getLsbD k || (s.perfInt && k == 4)) := by
  have hperf : (if s.perfInt then 0x10 else 0 : BitVec 5).getLsbD k = (s.perfInt && k == 4) := by
    cases s.perfInt
    · exact BitVec.getLsbD_zero
    · revert k
      decide
  rw [State.ip, BitVec.getLsbD_append, if_neg (by omega), Nat.add_sub_cancel_left, BitVec.getLsbD_append, if_pos hk,
    BitVec.getLsbD_or, hperf]

theorem getLsbD_ip_timer (s : State) : s.ip.getLsbD 7 = s.cp0.timer := by
  rw [State.ip, BitVec.getLsbD_append, if_neg (by decide), BitVec.getLsbD_append, if_neg (by decide)]
  exact BitVec.getLsbD_ofBool _ 0

/-! The timer (11_cp0_registers.md R170, R171). -/

theorem finish_cp0_eq (s t : State) : (finish s t).cp0 =
    tickPerf (perfEnabled s) t.tick (tickCount t.tick (tickRandom t.tick t.cp0)) := rfl

/-- Random and the performance counters are none of the timer's registers. -/
theorem finish_timer_regs (s t : State) : ∃ d : BitVec 32,
    ((draw 256 .countStall 0 0).toNat ≤ t.cp0.countWait → d ≠ 0)
      ∧ (finish s t).cp0.count = t.cp0.count + d ∧ (finish s t).cp0.compare = t.cp0.compare
      ∧ (finish s t).cp0.countWait = (if d = 0 then t.cp0.countWait + 1 else 0)
      ∧ (finish s t).cp0.timer = (t.cp0.timer || (t.cp0.compare - t.cp0.count != 0
        && t.cp0.compare - t.cp0.count ≤ d)) := by
  refine ⟨countAdvance t.tick t.cp0, fun hwait => ?_, ?_⟩
  · unfold countAdvance
    dsimp only
    split
    · decide
    · rename_i h
      exact fun h0 => h ⟨h0, hwait⟩
  · have hrandom : countAdvance t.tick (tickRandom t.tick t.cp0) = countAdvance t.tick t.cp0 := by
      unfold tickRandom
      split <;> rfl
    rw [finish_cp0_eq]
    unfold tickPerf tickCount
    rw [hrandom]
    unfold tickRandom
    split
    · split <;> exact ⟨rfl, rfl, rfl, rfl⟩
    · split <;> exact ⟨rfl, rfl, rfl, rfl⟩

/-- The gap to Compare lies within the advance exactly when Count passes Compare (R171). -/
theorem gap_le_iff (count compare d : BitVec 32) : (compare - count != 0 && decide (compare - count ≤ d)) = true ↔
    ∃ k : Nat, 1 ≤ k ∧ k ≤ d.toNat ∧ count + BitVec.ofNat 32 k = compare := by
  simp only [Bool.and_eq_true, bne_iff_ne, decide_eq_true_eq]
  constructor
  · rintro ⟨h0, hle⟩
    refine ⟨(compare - count).toNat, Nat.pos_of_ne_zero fun h => h0 (BitVec.eq_of_toNat_eq h), hle, ?_⟩
    rw [BitVec.ofNat_toNat, BitVec.setWidth_eq, BitVec.add_comm, BitVec.sub_add_cancel]
  · rintro ⟨k, hk, hkd, rfl⟩
    have hgap : count + BitVec.ofNat 32 k - count = BitVec.ofNat 32 k := by
      rw [BitVec.add_comm, BitVec.add_sub_cancel]
    have hnum : (BitVec.ofNat 32 k).toNat = k := by
      rw [BitVec.toNat_ofNat, Nat.mod_eq_of_lt (hkd.trans_lt d.isLt)]
    rw [hgap]
    refine ⟨fun h => ?_, ?_⟩
    · rw [h] at hnum
      exact absurd hnum (by simp; omega)
    · rw [BitVec.le_def, hnum]
      exact hkd

/-- Settles O18: Cause bit by bit, the two stores to Inten, and Count's advance past Compare. -/
theorem interruptLines : Obligations.InterruptLines := by
  refine ⟨fun s => ⟨fun k hk => ?_, ?_, ?_, ?_, ?_, ?_, ?_⟩, fun c v => ?_, fun s t => ?_,
    (draw 256 .countStall 0 0).toNat, fun s t hwait => ?_⟩
  · rw [show 10 + k = 8 + (2 + k) by omega, causeView_ip s (by omega), getLsbD_ip_lines s (by omega),
      getLsbD_lines _ hk]
    simp [show k ≠ 4 by omega]
  · rw [show 14 = 8 + (2 + 4) from rfl, causeView_ip s (by decide), getLsbD_ip_lines s (by decide),
      ← getLsbD_lines_four]
    simp [State.perfInt, BitVec.msb_eq_getLsbD_last, -BitVec.getLsbD_eq_getElem]
  · exact (causeView_ip s (by decide)).trans (getLsbD_ip_timer s)
  · exact (causeView_ip s (k := 0) (by decide)).trans (getLsbD_ip_low s (by decide))
  · exact (causeView_ip s (k := 1) (by decide)).trans (getLsbD_ip_low s (by decide))
  · exact extractLsb'_merge_out _ _ (by decide)
  · exact extractLsb'_merge_out _ _ (by decide)
  · intro on off
    have hv : v &&& 0xFFFFFFFF = v := BitVec.and_allOnes
    have hon : on = c.setIo 14 (c.io 14 ||| (v &&& 0x7FF)) :=
      congrArg (fun x => c.setIo 14 (c.io 14 ||| (x &&& 0x7FF))) hv
    have hoff : off = { c.setIo 14 (c.io 14 &&& ~~~(v &&& 0x7FF)) with
        pulse := c.pulse &&& ~~~(v.extractLsb' 0 15) } :=
      congrArg (fun x => { c.setIo 14 (c.io 14 &&& ~~~(x &&& 0x7FF)) with
        pulse := c.pulse &&& ~~~(x.extractLsb' 0 15) }) hv
    rw [hon, hoff]
    refine ⟨(io_setIo _ _ _ _).trans (if_pos rfl), rfl, rfl, fun i hi => (io_setIo _ _ _ _).trans (if_neg hi),
      (io_setIo _ _ _ _).trans (if_pos rfl), rfl, rfl, fun i hi => (io_setIo _ _ _ _).trans (if_neg hi)⟩
  · obtain ⟨d, -, hcount, hcompare, hwait, htimer⟩ := finish_timer_regs s t
    intro u d'
    have hd : d' = d := by
      show (finish s t).cp0.count - t.cp0.count = d
      rw [hcount, BitVec.add_comm, BitVec.add_sub_cancel]
    refine ⟨?_, hcompare, ?_⟩
    · rw [hd, ← gap_le_iff]
      show (finish s t).cp0.timer = true ↔ _
      rw [htimer, Bool.or_eq_true]
    · show (finish s t).cp0.countWait = if (finish s t).cp0.count = t.cp0.count then _ else 0
      rw [hwait, hcount]
      simp
  · obtain ⟨d, hmoves, hcount, -⟩ := finish_timer_regs s t
    rw [hcount]
    simpa using hmoves hwait

/-! Stand-by (61_platform.md R976). -/

theorem tickDdr_ioRegs (tick : Nat) (c : Chip) : (tickDdr tick c).ioRegs = c.ioRegs :=
  congrArg (·.ioRegs) (tickDdr_frame tick c)

theorem wake_frame (c : Chip) : { c.wake with ioRegs := c.ioRegs } = c := by
  obtain ⟨-, h⟩ | ⟨-, h⟩ := wake_cases c
  · rw [h]
  · rw [h]
    rfl

/-- Freq_scale 0 becomes 1, the rest of Chip_Config0 stays. -/
theorem merge_freqScale {x : BitVec 32} (h : x.extractLsb' 0 3 = 0) : merge 7 x 1 = x ||| 1 := by
  refine BitVec.eq_of_getLsbD_eq fun i hi => ?_
  rw [getLsbD_merge, BitVec.getLsbD_or]
  by_cases hlow : i < 3
  · have hbit := congrArg (·.getLsbD i) h
    have hseven : ∀ i, i < 3 → (7 : BitVec 32).getLsbD i = true := by decide
    simp only [BitVec.getLsbD_extractLsb', hlow, decide_true, Bool.true_and, Nat.zero_add] at hbit
    rw [hseven i hlow, if_pos rfl, hbit]
    simp
  · have hseven : ∀ i, i < 32 → 3 ≤ i → (7 : BitVec 32).getLsbD i = false ∧ (1 : BitVec 32).getLsbD i = false := by
      decide
    obtain ⟨h7, h1⟩ := hseven i hi (by omega)
    rw [h7, h1, if_neg Bool.false_ne_true, Bool.or_false]

/-- The DLL bit of `int_status` is clear after the lock (R926). -/
theorem ddrIntStatus_lock (c : Chip) (r15 : Word) :
    ({ c with ddrReady := true, ddrRegs := (c.setUnlocked false).ddrRegs.set 15 r15 } : Chip).ddrIntStatus.getLsbD 9
      = false := by
  rw [Chip.ddrIntStatus]
  dsimp only
  rw [BitVec.getLsbD_append, if_pos (by decide), BitVec.getLsbD_extractLsb']
  simp [Chip.setUnlocked, getLsbD_setBit, -BitVec.getLsbD_eq_getElem]

/-- Settles O59: a step in stand-by is waking and the DDR2 controller, which write different registers. -/
theorem standbyWakes : Obligations.StandbyWakes := by
  intro s s1 henv hscale _ wake c dllBit
  have hstandby : standby s1 = true := beq_iff_eq.2 hscale
  have hwake : wake ↔ c.lines ≠ 0 := (lines_ne_zero_iff c).symm
  have hio (i : Fin 64) : (tickDdr s1.tick c.wake).io i = c.wake.io i :=
    congrArg (fun r : Vector (BitVec 32) 64 => r[i]) (tickDdr_ioRegs _ _)
  have hcold : { c.wake with ioRegs := c.ioRegs } = c := wake_frame c
  have hstarted : c.wake.ddrStarted = c.ddrStarted := congrArg (·.ddrStarted) hcold
  have hready : c.wake.ddrReady = c.ddrReady := congrArg (·.ddrReady) hcold
  have hwait : c.wake.ddrWait = c.ddrWait := congrArg (·.ddrWait) hcold
  have hregs : c.wake.ddrRegs = c.ddrRegs := congrArg (·.ddrRegs) hcold
  refine ⟨standbyStep s1, ?_, rfl, rfl, ?_, fun h => ?_, fun h => ?_, fun h => ?_, fun hs hr => ?_⟩
  · rw [step, henv]
    exact if_pos hstandby
  · have hframe := congrArg (fun x : Chip => { x with ioRegs := c.ioRegs }) (tickDdr_frame s1.tick c.wake)
    rw [hcold] at hframe
    simp only [hready, hwait, hregs] at hframe
    exact hframe
  · obtain ⟨-, hsame⟩ | ⟨hlines, -⟩ := wake_cases c
    · exact (tickDdr_ioRegs _ _).trans (congrArg Chip.ioRegs hsame)
    · exact absurd (hwake.2 hlines) h
  · obtain ⟨hlines, -⟩ | ⟨-, hset⟩ := wake_cases c
    · exact absurd hlines (hwake.1 h)
    · have h32 : (tickDdr s1.tick c.wake).io 32 = c.io 32 ||| 1 := by
        rw [hio, hset, io_setIo, if_pos rfl, merge_freqScale hscale]
      refine ⟨?_, h32, fun i hi => (hio i).trans (by rw [hset, io_setIo, if_neg hi])⟩
      refine beq_eq_false_iff_ne.2 fun h0 => ?_
      have hzero : (c.io 32 ||| 1).extractLsb' 0 3 = 0 := (congrArg (BitVec.extractLsb' 0 3) h32).symm.trans h0
      have hbit := congrArg (·.getLsbD 0) hzero
      simp at hbit
  · obtain ⟨-, hsame⟩ | ⟨hs, hr, -⟩ := tickDdr_cases s1.tick c.wake
    · have hchip : (standbyStep s1).mem.chip = c.wake := hsame
      rw [hchip]
      exact ⟨hready, hwait, hregs⟩
    · rw [hstarted] at hs
      rw [hready] at hr
      simp [hs, hr] at h
  · obtain ⟨hidle, -⟩ | ⟨-, -, ⟨r15, hlock⟩ | ⟨hlt, hstay⟩⟩ := tickDdr_cases s1.tick c.wake
    · rw [hstarted, hready] at hidle
      simp [hs, hr] at hidle
    · have hchip : (standbyStep s1).mem.chip = _ := hlock
      rw [hchip]
      exact ⟨.inl ⟨rfl, ddrIntStatus_lock _ _⟩, fun _ => rfl⟩
    · have hchip : (standbyStep s1).mem.chip = _ := hstay
      rw [hchip]
      exact ⟨.inr ⟨hready.trans hr, congrArg (· + 1) hwait, hregs⟩,
        fun hle => absurd hlt (by rw [hwait]; exact Nat.not_lt.2 hle)⟩

end Sys2Proof.Machine
end

section
/-! SUPPORT. O45, O5: the address windows and the way of a boot fetch through them (61_platform.md R910, R913,
70_reset_and_hazards.md R990). -/

namespace Sys2Proof.Machine

/-! Which windows match. -/

theorem windowHit_iff (c : Chip) (base i : Nat) (a : Word) : windowHit c base i a = true ↔
    a &&& c.winRegs[base + (4 + i)]! = c.winRegs[base + i]! := by
  rw [windowHit, beq_iff_eq, Nat.add_assoc]

/-- MMAP[19:2] takes no part in the address (R913). -/
theorem windowOut_eq (c : Chip) (base i : Nat) (a : Word) : windowOut c base i a =
    (a &&& ~~~c.winRegs[base + (4 + i)]!)
      ||| ((c.winRegs[base + (8 + i)]!).extractLsb' 20 44 ++ (0 : BitVec 20)) := by
  have hmmap (x : Word) : x &&& ~~~(0xFFFFF : Word) = x.extractLsb' 20 44 ++ (0 : BitVec 20) := by
    have hmask : ~~~(0xFFFFF : Word) = BitVec.allOnes 44 ++ (0 : BitVec 20) := by decide
    calc x &&& ~~~(0xFFFFF : Word)
      _ = (x.extractLsb' 20 44 ++ x.extractLsb' 0 20) &&& (BitVec.allOnes 44 ++ (0 : BitVec 20)) := by
        rw [hmask, BitVec.extractLsb'_append_extractLsb'_eq_extractLsb' (by rfl)]
        exact congrArg (· &&& _) BitVec.extractLsb'_eq_self.symm
      _ = x.extractLsb' 20 44 ++ (0 : BitVec 20) := by
        rw [BitVec.and_append, BitVec.and_allOnes]
        exact congrArg _ BitVec.and_zero
  rw [windowOut, hmmap, Nat.add_assoc, Nat.add_assoc]

/-- One of four windows alone matches. -/
theorem filter_windows_eq_singleton {p : Nat → Bool} {i : Nat} (hi : i < 4) (hp : p i = true)
    (hother : ∀ j, j < 4 → j ≠ i → ¬p j = true) : [0, 1, 2, 3].filter p = [i] := by
  have hsame : ∀ j ∈ [0, 1, 2, 3], p j = (j == i) := by
    intro j hj
    have hj4 : j < 4 := by simp at hj; omega
    by_cases hji : j = i
    · rw [hji, hp, beq_self_eq_true]
    · rw [Bool.eq_false_iff.2 (hother j hj4 hji), beq_eq_false_iff_ne.2 hji]
  have hlist : ∀ i, i < 4 → [0, 1, 2, 3].filter (· == i) = [i] := by decide
  rw [List.filter_congr hsame, hlist i hi]

section
variable {c : Chip} {base : Nat} {a : Word}

theorem throughWindows_miss (h : ∀ i, i < 4 → ¬windowHit c base i a = true) :
    throughWindows c base a = .ok .miss := by
  have hnone : [0, 1, 2, 3].filter (fun i => windowHit c base i a) = [] := by
    simp [h 0, h 1, h 2, h 3]
  rw [throughWindows, hnone]

section
variable {i : Nat} (hi : i < 4) (hhit : windowHit c base i a = true)
  (hother : ∀ j, j < 4 → j ≠ i → ¬windowHit c base j a = true)
include hi hhit hother

theorem throughWindows_ddr (hr : windowRoute c base i = 0) :
    throughWindows c base a = .ok (.ddr (windowOut c base i a).toNat) := by
  rw [throughWindows, filter_windows_eq_singleton hi hhit hother]
  dsimp only
  rw [hr]
  rfl

theorem throughWindows_io (hr : windowRoute c base i = 1) :
    throughWindows c base a = .ok (.io (windowOut c base i a).toNat) := by
  rw [throughWindows, filter_windows_eq_singleton hi hhit hother]
  dsimp only
  rw [hr]
  rfl

theorem throughWindows_unassigned (hr : windowRoute c base i = 2 ∨ windowRoute c base i = 3) :
    throughWindows c base a = .error .windowRoute := by
  rw [throughWindows, filter_windows_eq_singleton hi hhit hother]
  dsimp only
  obtain hr | hr := hr
  · rw [hr]
    rfl
  · rw [hr]
    rfl

end

theorem throughWindows_overlap {i j : Nat} (hi : i < 4) (hj : j < 4) (hne : i ≠ j)
    (hhi : windowHit c base i a = true) (hhj : windowHit c base j a = true) :
    throughWindows c base a = .error .windowOverlap := by
  have hmem (k : Nat) (hk : k < 4) (hhk : windowHit c base k a = true) :
      k ∈ [0, 1, 2, 3].filter (fun i => windowHit c base i a) :=
    List.mem_filter.2 ⟨by simp; omega, hhk⟩
  have hmi := hmem i hi hhi
  have hmj := hmem j hj hhj
  rw [throughWindows]
  cases hl : [0, 1, 2, 3].filter (fun i => windowHit c base i a) with
  | nil => simp [hl] at hmi
  | cons x l =>
    cases l with
    | nil =>
      rw [hl, List.mem_singleton] at hmi hmj
      exact absurd (hmi.trans hmj.symm) hne
    | cons y l => rfl

end

/-- Settles O45: the list of matching windows is empty, one window, or holds two. -/
theorem windowTranslation : Obligations.WindowTranslation := by
  intro c base a _ reg hit out
  have hhit (i : Nat) : windowHit c base i a = true ↔ hit i := windowHit_iff c base i a
  have hout (i : Nat) : (windowOut c base i a).toNat = out i := congrArg BitVec.toNat (windowOut_eq c base i a)
  have hroute (i : Nat) : windowRoute c base i = (reg (8 + i)).extractLsb' 0 2 := by
    rw [windowRoute, Nat.add_assoc]
  refine ⟨fun h => throughWindows_miss fun i hi => (hhit i).not.2 (h i hi), fun i hi hi' hother => ?_,
    fun i j hi hj hne hi' hj' => throughWindows_overlap hi hj hne ((hhit i).2 hi') ((hhit j).2 hj')⟩
  have hother' (j : Nat) (hj : j < 4) (hne : j ≠ i) : ¬windowHit c base j a = true :=
    (hhit j).not.2 (hother j hj hne)
  have hhit' := (hhit i).2 hi'
  rw [← hout, ← hroute]
  refine ⟨throughWindows_ddr hi hhit' hother', throughWindows_io hi hhit' hother', fun h => ?_⟩
  have hhigh : ∀ x : BitVec 2, x.extractLsb' 1 1 = 1 → x = 2 ∨ x = 3 := by decide
  have hfield : ((reg (8 + i)).extractLsb' 0 2).extractLsb' 1 1 = 1 := by
    rw [← h]
    ext k hk
    simp
  exact throughWindows_unassigned hi hhit' hother' (hroute i ▸ hhigh _ hfield)

/-! A fetch from the boot ROM: the megabyte that starts at 0x1FC00000, byte `y` of it. -/

/-- The windows match whole megabytes. -/
theorem megabyte_and (h m : BitVec 44) (y : BitVec 20) :
    ((h ++ y) &&& (m ++ (0 : BitVec 20)) : Word) = (h &&& m) ++ (0 : BitVec 20) := by
  rw [BitVec.and_append]
  exact congrArg _ BitVec.and_zero

theorem megabyte_and_not (h m : BitVec 44) (y : BitVec 20) :
    ((h ++ y) &&& ~~~(m ++ (0 : BitVec 20)) : Word) = (h &&& ~~~m) ++ y := by
  rw [BitVec.not_append, BitVec.and_append]
  exact congrArg _ BitVec.and_allOnes

/-- Only window 1 of the core takes the boot ROM's megabyte, to the IO controller at the same address (R912). -/
theorem throughWindows_bootRom {c : Chip} (hw : c.winRegs = winRegsReset) (y : BitVec 20) :
    throughWindows c 0 ((0x1FC : BitVec 44) ++ y) = .ok (.io ((0x1FC : BitVec 44) ++ y).toNat) := by
  have hhit (i : Nat) {mask : BitVec 44} (hm : winRegsReset[0 + (4 + i)]! = mask ++ (0 : BitVec 20)) :
      windowHit c 0 i ((0x1FC : BitVec 44) ++ y) = true
        ↔ (0x1FC &&& mask) ++ (0 : BitVec 20) = winRegsReset[0 + i]! := by
    rw [windowHit_iff, hw, hm, megabyte_and]
  have hmask : winRegsReset[0 + (4 + 1)]! = (0xFFFFFFFFF00 : BitVec 44) ++ (0 : BitVec 20) := by decide
  have hmap : (winRegsReset[0 + (8 + 1)]!).extractLsb' 20 44 = 0x100 := by decide
  have hout : windowOut c 0 1 ((0x1FC : BitVec 44) ++ y) = (0x1FC : BitVec 44) ++ y := by
    rw [windowOut_eq, hw, hmask, megabyte_and_not, hmap, BitVec.or_append]
    exact congrArg _ BitVec.or_zero
  have hroute : windowRoute c 0 1 = 1 := by
    rw [windowRoute, hw]
    decide
  rw [throughWindows_io (i := 1) (by decide) ((hhit 1 hmask).2 (by decide)) ?_ hroute, hout]
  · intro j hj hne
    obtain rfl | rfl | rfl : j = 0 ∨ j = 2 ∨ j = 3 := by omega
    · exact (hhit 0 (mask := 0xFFFFFFFFF00) (by decide)).not.2 (by decide)
    · exact (hhit 2 (mask := 0xFFFFFFFFFFF) (by decide)).not.2 (by decide)
    · exact (hhit 3 (mask := 0xFFFFFFFFFFF) (by decide)).not.2 (by decide)

/-- A read in the boot ROM's megabyte answers the ROM's bytes (R910). -/
theorem busRead_bootRom {m : MemSys} (hw : m.chip.winRegs = winRegsReset) (x : MemCtx) (acc : Access) {pa : PAddr}
    {y : BitVec 20} (hpa : pa.toNat = 0x1FC00000 + y.toNat) (n : Nat) :
    busRead x acc pa n m = .ok (readBytes m.rom pa.toNat n) m := by
  have hy := y.isLt
  have haddr : BitVec.ofNat 64 pa.toNat = (0x1FC : BitVec 44) ++ y := by
    apply BitVec.eq_of_toNat_eq
    rw [toNat_append_add, BitVec.toNat_ofNat, Nat.mod_eq_of_lt (by omega), hpa]
    rfl
  have hroute : route m.chip pa.toNat = .ok (.io pa.toNat) := by
    have h1 : (decide (0x3FF00000 ≤ pa.toNat) && decide (pa.toNat ≤ 0x3FF000BF)) = false := by
      simp; omega
    have h2 : (decide (0x0FFFFE00 ≤ pa.toNat) && decide (pa.toNat ≤ 0x0FFFFFCF)) = false := by
      simp; omega
    rw [route, h1, h2, Bool.false_and, if_neg Bool.false_ne_true, if_neg Bool.false_ne_true, haddr,
      throughWindows_bootRom hw, toNat_append_add, hpa]
    rfl
  have hspace : ioSpace m.chip pa.toNat = .rom := by
    unfold ioSpace
    rw [if_neg (by omega), if_neg (by omega), if_neg (by omega), if_neg (by omega), if_neg (by omega),
      if_neg (by omega), if_pos (by omega)]
  rw [busRead, hroute]
  simp only [ioRead, hspace]
  rfl

/-- Four bytes read, the lowest address least significant (20_memory.md R250). -/
theorem setWidth_readBytes_four (m : Memory) (a : Nat) : (readBytes m a 4).setWidth 32 =
    readByte m (a + 3) ++ readByte m (a + 2) ++ readByte m (a + 1) ++ readByte m (a + 0) := by
  rw [← byte_readBytes m a (n := 4) (by decide) (by decide), ← byte_readBytes m a (n := 4) (by decide) (by decide),
    ← byte_readBytes m a (n := 4) (by decide) (by decide), ← byte_readBytes m a (n := 4) (by decide) (by decide),
    BitVec.extractLsb'_append_extractLsb'_eq_extractLsb' (by rfl),
    BitVec.extractLsb'_append_extractLsb'_eq_extractLsb' (by rfl),
    BitVec.extractLsb'_append_extractLsb'_eq_extractLsb' (by rfl), BitVec.setWidth_eq_extractLsb' (by decide)]

/-- The physical address of the boot ROM's word `k`. -/
def bootPa (k : BitVec 18) : PAddr := (0 : BitVec 11) ++ ((0x1FC : BitVec 9) ++ k ++ (0 : BitVec 2))

theorem toNat_bootPa (k : BitVec 18) : (bootPa k).toNat = 0x1FC00000 + 4 * k.toNat := by
  have hk := k.isLt
  simp only [bootPa, toNat_append_add]
  simp
  omega

/-- Settles O5: CKSEG1 gives the physical address, uncached, and window 1 leads to the ROM. -/
theorem bootRomFetch : Obligations.BootRomFetch := by
  intro s k hmode hwin hpc b
  have hsplit : s.pc = (0x7FFFFFFFD : BitVec 35) ++ ((0x1FC : BitVec 9) ++ k ++ (0 : BitVec 2)) := by
    have hhigh : (0xFFFFFFFFBFC : BitVec 44) = (0x7FFFFFFFD : BitVec 35) ++ (0x1FC : BitVec 9) := by decide
    rw [hpc, hhigh, BitVec.append_assoc, BitVec.append_assoc, BitVec.append_assoc]
    rfl
  have haligned : alignedTo 4 s.pc = true := by
    rw [alignedTo, hpc, toNat_append_add]
    simp
  have hseg := kernelSegment_ckseg1 (s.cp0.config.extractLsb' 0 3) ((0x1FC : BitVec 9) ++ k ++ (0 : BitVec 2))
  rw [← hsplit] at hseg
  have htrans : translateFetch s s.pc = (.ok (bootPa k) 2, s.itlb) := by
    rw [translateFetch_unmapped hmode haligned (by rw [segment, hseg]; nofun), translate_direct hmode hseg]
    rfl
  have hpa : (bootPa k).toNat = 0x1FC00000 + (k ++ (0 : BitVec 2)).toNat := by
    rw [toNat_bootPa, toNat_append_add]
    simp
    omega
  have hbus := busRead_bootRom hwin s.ctx .fetch hpa 4
  have hfetch : fetchAttr s.ctx 2 s.pc (bootPa k) s.mem = .ok (b 3 ++ b 2 ++ b 1 ++ b 0) s.mem := by
    rw [fetchAttr, if_neg (by decide), hbus, toNat_bootPa]
    exact congrArg (MemRes.ok · s.mem) (setWidth_readBytes_four _ _)
  rw [fetch, htrans]
  simp only [hfetch]

end Sys2Proof.Machine
end

section
/-! SUPPORT. O10, O19: the state after cold reset (70_reset_and_hazards.md R992). -/

namespace Sys2Proof.Machine

/-- Settles O10: nothing is in the memories, CP0 is legal, and the JTLB and the core are as a reset leaves them. -/
theorem resetMeetsInvariants : Obligations.ResetMeetsInvariants := fun p _ hrom =>
  ⟨⟨rfl, hrom, rfl, rfl, rfl⟩, legalCp0_iff.1 (legalCp0_reset p),
    (tlbUnambiguous_coldReset (State.resetWith p)).congr rfl, ⟨rfl, nofun, BitVec.zero_and, Nat.zero_le _⟩⟩

/-- Settles O19: ERL puts the core into kernel mode, IE is 0, and the rest are the fields themselves. -/
theorem resetValues : Obligations.ResetValues := by
  intro p rom s
  have hlevel : ((0x30400004 : BitVec 32).getLsbD 1 || (0x30400004 : BitVec 32).getLsbD 2) = true := by decide
  have hcu1 : (0x30400004 : BitVec 32).getLsbD 29 = true := by decide
  have hfr : (0x30400004 : BitVec 32).getLsbD 26 = false := by decide
  have hie : (0x30400004 : BitVec 32).getLsbD 0 = false := by decide
  have hmode : s.mode = some .kernel := if_pos hlevel
  have husable : s.cp0Usable = true := by simp [State.cp0Usable, hmode]
  have hint : interruptPending s = false := Bool.eq_false_iff.2 fun h =>
    Bool.false_ne_true (hie.symm.trans ((interruptPending_iff s).1 h).1)
  exact ⟨rfl, rfl, rfl, rfl, rfl, rfl, rfl, rfl, hmode, husable, hcu1, hfr, hint, rfl, rfl, rfl, rfl, rfl, rfl⟩

end Sys2Proof.Machine
end

section
/-! SUPPORT. O51 to O54, O58: how a floating instruction ends, with and without a trap (47_fpu.md R703, R711). -/

namespace Sys2Proof.Machine

section
variable {i : Instr} {s : State} {o : FpOut}

theorem withCp1_of_usable {x : Res} (h : s.cu 1 = true) : withCp1 s x = x := if_pos h

theorem withDouble_of_ok {rs : List Reg} {x : Res} (h : rs.all s.doubleOk = true) : withDouble s rs x = x := if_pos h

/-- The enables are none of the bits that Causes are written to. -/
theorem fcrTraps_fcrSetCauses (f : BitVec 32) (c : Causes) : fcrTraps (fcrSetCauses f c) c = fcrTraps f c := by
  have henables : fcrEnables (fcrSetCauses f c) = fcrEnables f := extractLsb'_merge_out _ _ (by decide)
  rw [fcrTraps, fcrTraps, henables]

/-- The end of a floating operation, by whether it traps. -/
theorem fpDone_of_fpFinish {write : State → State} {p : State → State → Prop}
    (hi : exec i s = withCp1 s (fpFinish s o write)) (hu : s.cu 1 = true)
    (hp : p s (advance (write { s with fcr31 := fcrAfter s o.causes }))) : FpDone i s o p := by
  have hfinish : exec i s = if fcrTraps s.fcr31 o.causes = true
      then raise .fpe { s with fcr31 := fcrSetCauses s.fcr31 o.causes }
      else .next (advance (write { s with fcr31 := fcrAfter s o.causes })) := by
    rw [hi, withCp1_of_usable hu, ← fcrTraps_fcrSetCauses]
    rfl
  exact ⟨fun h => ⟨_, hfinish.trans (if_neg (by simp [h])), hp⟩, fun h => hfinish.trans (if_pos h)⟩

/-! The registers written. -/

theorem onlyFprS_fcr (s : State) (r : Reg) (v f : BitVec 32) :
    OnlyFprS r v f s (advance (({ s with fcr31 := f } : State).setFprS r v)) := by
  obtain ⟨hmoves, hread, hother, hfcr, hrest⟩ := onlyFprS_advance { s with fcr31 := f } r v
  exact ⟨hmoves, hread, hother, hfcr, congrArg (fun t : State => { t with fcr31 := s.fcr31 }) hrest⟩

theorem onlyFcr_advance (s : State) (f : BitVec 32) : OnlyFcr f s (advance { s with fcr31 := f }) :=
  ⟨movesOn_advance _ _ rfl rfl, rfl, rfl⟩

variable {fd : Reg}

theorem fpDoneS (hi : exec i s = withCp1 s (fpFinishS s fd o)) (hu : s.cu 1 = true) : FpDoneS i s fd o :=
  fpDone_of_fpFinish hi hu (onlyFprS_fcr s fd _ _)

theorem fpDoneD (hi : exec i s = withCp1 s (fpFinishD s fd o)) (hu : s.cu 1 = true) : FpDoneD i s fd o :=
  fpDone_of_fpFinish hi hu (onlyFprD_advance s fd _ _)

theorem fpDoneC {r : Bool × Bool} (hi : exec i s = withCp1 s (fpFinishC s r)) (hu : s.cu 1 = true) :
    FpDoneC i s r := fpDone_of_fpFinish hi hu (onlyFcr_advance s _)

theorem fpDoneCPs {lo hi : Bool × Bool} (he : exec i s = withCp1 s (fpFinishCPs s lo hi)) (hu : s.cu 1 = true) :
    FpDoneCPs i s lo hi := fpDone_of_fpFinish he hu (onlyFcr_advance s _)

/-- A meaning on 64-bit registers that may be named (10_state.md R114). -/
theorem exec_of_double {rs : List Reg} {x : Res} (hi : exec i s = withCp1 s (withDouble s rs x))
    (h : rs.all s.doubleOk = true) : exec i s = withCp1 s x :=
  hi.trans (congrArg (withCp1 s) (withDouble_of_ok h))

/-- A meaning whose unit is enabled (47_fpu.md R715). -/
theorem exec_of_unit {off : Bool} {x : Res}
    (hi : exec i s = withCp1 s (if off = true then .refused .fpUnitDisabled else withCp1 s x))
    (hu : s.cu 1 = true) (h : off = false) : exec i s = withCp1 s x :=
  hi.trans ((withCp1_of_usable hu).trans (if_neg (by simp [h])))

end

/-! The forms of the obligations: 64-bit operands, and units that may be disabled. -/

section
variable {i : Instr} {s : State} {o : FpOut} {fs ft fd : Reg}

theorem all_doubleOk_one (h : s.doubleOk fs = true) : [fs].all s.doubleOk = true := by simp [h]

theorem all_doubleOk_two (hs : s.doubleOk fs = true) (ht : s.doubleOk ft = true) :
    [fs, ft].all s.doubleOk = true := by simp [hs, ht]

theorem all_doubleOk_three (hs : s.doubleOk fs = true) (ht : s.doubleOk ft = true) (hd : s.doubleOk fd = true) :
    [fs, ft, fd].all s.doubleOk = true := by simp [hs, ht, hd]

theorem fpDoneD_double {rs : List Reg} (hi : exec i s = withCp1 s (withDouble s rs (fpFinishD s fd o)))
    (hu : s.cu 1 = true) (h : rs.all s.doubleOk = true) : FpDoneD i s fd o := fpDoneD (exec_of_double hi h) hu

theorem fpDoneS_double {rs : List Reg} (hi : exec i s = withCp1 s (withDouble s rs (fpFinishS s fd o)))
    (hu : s.cu 1 = true) (h : rs.all s.doubleOk = true) : FpDoneS i s fd o := fpDoneS (exec_of_double hi h) hu

theorem fpDoneC_double {rs : List Reg} {r : Bool × Bool}
    (hi : exec i s = withCp1 s (withDouble s rs (fpFinishC s r)))
    (hu : s.cu 1 = true) (h : rs.all s.doubleOk = true) : FpDoneC i s r := fpDoneC (exec_of_double hi h) hu

theorem fpDoneCPs_double {rs : List Reg} {lo hi : Bool × Bool}
    (he : exec i s = withCp1 s (withDouble s rs (fpFinishCPs s lo hi)))
    (hu : s.cu 1 = true) (h : rs.all s.doubleOk = true) : FpDoneCPs i s lo hi := fpDoneCPs (exec_of_double he h) hu

end

/-- Settles O54: each compare ends as a compare does, on the condition of its number. -/
theorem floatingCompares : Obligations.FloatingCompares := by
  intro s ft fs hu
  refine ⟨?_, fun hs ht => ?_⟩
  · exact ⟨fpDoneC rfl hu, fpDoneC rfl hu, fpDoneC rfl hu, fpDoneC rfl hu, fpDoneC rfl hu, fpDoneC rfl hu,
      fpDoneC rfl hu, fpDoneC rfl hu, fpDoneC rfl hu, fpDoneC rfl hu, fpDoneC rfl hu, fpDoneC rfl hu,
      fpDoneC rfl hu, fpDoneC rfl hu, fpDoneC rfl hu, fpDoneC rfl hu⟩
  · have hok := all_doubleOk_two hs ht
    have compareD {i : Instr} {r : Bool × Bool} (hi : exec i s = withCp1 s (withDouble s [fs, ft] (fpFinishC s r))) :
        FpDoneC i s r := fpDoneC_double hi hu hok
    have comparePs {i : Instr} {lo hi : Bool × Bool}
        (he : exec i s = withCp1 s (withDouble s [fs, ft] (fpFinishCPs s lo hi))) : FpDoneCPs i s lo hi :=
      fpDoneCPs_double he hu hok
    exact ⟨compareD rfl, comparePs rfl, compareD rfl, comparePs rfl, compareD rfl, comparePs rfl, compareD rfl,
      comparePs rfl, compareD rfl, comparePs rfl, compareD rfl, comparePs rfl, compareD rfl, comparePs rfl,
      compareD rfl, comparePs rfl, compareD rfl, comparePs rfl, compareD rfl, comparePs rfl, compareD rfl,
      comparePs rfl, compareD rfl, comparePs rfl, compareD rfl, comparePs rfl, compareD rfl, comparePs rfl,
      compareD rfl, comparePs rfl, compareD rfl, comparePs rfl⟩

/-! Moves and branches. -/

/-- E traps always, another cause when its enable is set (47_fpu.md R711). -/
theorem fcrTraps_eq (f : BitVec 32) (c : Causes) :
    fcrTraps f c = (c.getLsbD 5 || (c.extractLsb' 0 5 &&& fcrEnables f) != 0) := by
  have hsplit : ∀ c : Causes, c = BitVec.ofBool (c.getLsbD 5) ++ c.extractLsb' 0 5 := by decide
  have hzero : ∀ (b : Bool) (x : BitVec 5), (BitVec.ofBool b ++ x != 0) = (b || x != 0) := by decide
  have hand : c &&& (BitVec.ofBool true ++ fcrEnables f)
      = BitVec.ofBool (c.getLsbD 5) ++ (c.extractLsb' 0 5 &&& fcrEnables f) := by
    conv_lhs => rw [hsplit c]
    rw [BitVec.and_append, BitVec.ofBool_and_ofBool, Bool.and_true]
  rw [fcrTraps, hand, hzero]

/-- Settles O58: each is one register's write, FCR31's write with its trap, or a branch. -/
theorem floatingMovesAndBranches : Obligations.FloatingMovesAndBranches := by
  intro s rt fs fd imm hu target f trap
  have hrun (i : Instr) (x : Res) (hi : exec i s = withCp1 s x) : exec i s = x := hi.trans (withCp1_of_usable hu)
  have htarget := branchTarget_eq s imm
  have htrap : fcrTraps f (fcrCauses f) = trap := by
    have he : (fcrCauses f).getLsbD 5 = f.getLsbD 17 := by simp [fcrCauses, -BitVec.getLsbD_eq_getElem]
    have hlow : (fcrCauses f).extractLsb' 0 5 = f.extractLsb' 12 5 := by
      ext k hk
      simp [fcrCauses]
      omega
    rw [fcrTraps_eq, he, hlow]
    rfl
  have hctc1 : exec (.ctc1 rt 31) s = if trap = true then raise .fpe { s with fcr31 := f }
      else .next (advance { s with fcr31 := f }) := by
    rw [← htrap]
    exact hrun _ _ rfl
  refine ⟨⟨_, hrun _ _ rfl, onlyFprS_advance s _ _⟩, does_writeNext (hrun _ _ rfl) rfl,
    ⟨_, hrun _ _ rfl, onlyFprS_advance s _ _⟩, fun hs hd => ?_, fun hs => ?_,
    does_writeNext (hrun _ _ rfl) rfl, does_writeNext (hrun _ _ rfl) ?_, does_advance (hrun _ _ rfl),
    fun h => ⟨_, hctc1.trans (if_neg (by simp [h])), onlyFcr_advance s f⟩, fun h => hctc1.trans (if_pos h),
    fun h0 h31 => ⟨?_, ?_⟩, fun h => ?_⟩
  · have hok := all_doubleOk_two hs hd
    exact ⟨⟨_, hrun _ _ (exec_of_double rfl hok), onlyFprD_advance s _ _ _⟩,
      ⟨_, hrun _ _ (exec_of_double rfl hok), onlyFprD_advance s _ _ _⟩⟩
  · have hok := all_doubleOk_one hs
    exact ⟨does_writeNext (hrun _ _ (exec_of_double rfl hok)) rfl,
      ⟨_, hrun _ _ (exec_of_double rfl hok), onlyFprD_advance s _ _ _⟩⟩
  · exact BitVec.setWidth_eq_append (by decide)
  · exact (hrun _ _ rfl).trans ((if_neg h0).trans (if_neg h31))
  · exact (hrun _ _ rfl).trans ((if_neg h31).trans (if_neg h0))
  · exact ⟨does_branch (hrun _ _ rfl) h rfl htarget, does_branch (hrun _ _ rfl) h rfl htarget,
      does_likely (hrun _ _ rfl) h rfl htarget, does_likely (hrun _ _ rfl) h rfl htarget⟩

end Sys2Proof.Machine
end

section
/-! SUPPORT. O51 to O53, O55 to O57: floating patterns field by field (47_fpu.md R701, R702). -/

namespace Sys2Proof.Machine

/-! The two formats. -/

theorem fracBits_pos (f : Fmt) : 0 < fracBits f := by cases f <;> decide

theorem expMax_eq (f : Fmt) : expMax f = 2 * expBias f + 1 := by cases f <;> rfl

theorem expBias_pos (f : Fmt) : 1 < expBias f := by cases f <;> decide

/-- The exponent field lies between the fraction and the sign. -/
theorem two_pow_signBit (f : Fmt) : 2 ^ signBit f = (expMax f + 1) * 2 ^ fracBits f := by cases f <;> rfl

section
variable {f : Fmt} {neg : Bool} {e m : Nat}

/-! Packing and its fields. -/

/-- The exponent and the fraction lie below the sign. -/
theorem fields_lt (he : e ≤ expMax f) (hm : m < 2 ^ fracBits f) : e * 2 ^ fracBits f + m < 2 ^ signBit f := by
  rw [two_pow_signBit]
  calc e * 2 ^ fracBits f + m < (e + 1) * 2 ^ fracBits f := by rw [Nat.add_mul]; omega
    _ ≤ (expMax f + 1) * 2 ^ fracBits f := Nat.mul_le_mul_right _ (by omega)

theorem packBits_lt (he : e ≤ expMax f) (hm : m < 2 ^ fracBits f) : packBits f neg e m < 2 ^ (signBit f + 1) := by
  have hfield := fields_lt he hm
  rw [packBits, Nat.pow_succ]
  cases neg
  · rw [if_neg Bool.false_ne_true]; omega
  · rw [if_pos rfl]; omega

/-- The sign, the exponent and the fraction of a packed pattern. -/
theorem fields_packBits (he : e ≤ expMax f) (hm : m < 2 ^ fracBits f) :
    fpNeg f (packBits f neg e m) = neg ∧ fpExp f (packBits f neg e m) = e
      ∧ fpFrac f (packBits f neg e m) = m := by
  have hsign := two_pow_signBit f
  have hpow := Nat.two_pow_pos (fracBits f)
  have hfield := fields_lt he hm
  have hpack : packBits f neg e m = 2 ^ signBit f * neg.toNat + (e * 2 ^ fracBits f + m) := by
    cases neg with
    | false => simp [packBits]
    | true => simp [packBits, Nat.add_assoc]
  have hwhole : packBits f neg e m = 2 ^ fracBits f * ((expMax f + 1) * neg.toNat + e) + m := by
    rw [hpack, hsign]
    ring
  refine ⟨?_, ?_, ?_⟩
  · rw [fpNeg, hpack, Nat.mul_add_div (Nat.two_pow_pos _), Nat.div_eq_of_lt hfield]
    cases neg with
    | false => rfl
    | true => rfl
  · rw [fpExp, hwhole, Nat.mul_add_div hpow, Nat.div_eq_of_lt hm, Nat.add_zero, Nat.mul_add_mod,
      Nat.mod_eq_of_lt (by omega)]
  · rw [fpFrac, hwhole, Nat.mul_add_mod, Nat.mod_eq_of_lt hm]

theorem fpVal_packBits (he : e ≤ expMax f) (hm : m < 2 ^ fracBits f) : fpVal f (packBits f neg e m) =
    if e = expMax f then if m = 0 then .inf neg else if 2 ^ (fracBits f - 1) ≤ m then .snan else .qnan
    else if e = 0 then .fin neg m (1 - (expBias f : Int) - fracBits f)
    else .fin neg (2 ^ fracBits f + m) ((e : Int) - expBias f - fracBits f) := by
  obtain ⟨hneg, hexp, hfrac⟩ := fields_packBits (neg := neg) he hm
  simp only [fpVal, hneg, hexp, hfrac]

theorem fpVal_packBits_normal (h0 : 0 < e) (he : e < expMax f) (hm : m < 2 ^ fracBits f) :
    fpVal f (packBits f neg e m) = .fin neg (2 ^ fracBits f + m) ((e : Int) - expBias f - fracBits f) := by
  rw [fpVal_packBits he.le hm, if_neg he.ne, if_neg h0.ne']

end

/-! The special patterns. -/

theorem fpVal_infBits (f : Fmt) (neg : Bool) : fpVal f (infBits f neg) = .inf neg := by
  rw [infBits, fpVal_packBits le_rfl (Nat.two_pow_pos _), if_pos rfl, if_pos rfl]

theorem fpVal_zeroBits (f : Fmt) (neg : Bool) :
    fpVal f (zeroBits f neg) = .fin neg 0 (1 - (expBias f : Int) - fracBits f) := by
  have hmax := expMax_eq f
  rw [zeroBits, fpVal_packBits (Nat.zero_le _) (Nat.two_pow_pos _), if_neg (by omega), if_pos rfl]

theorem fpVal_maxBits (f : Fmt) (neg : Bool) : fpVal f (maxBits f neg) =
    .fin neg (2 ^ (fracBits f + 1) - 1) ((expBias f : Int) - fracBits f) := by
  have hmax := expMax_eq f
  have hbias := expBias_pos f
  have hpow := Nat.two_pow_pos (fracBits f)
  have hsig : 2 ^ fracBits f + (2 ^ fracBits f - 1) = 2 ^ (fracBits f + 1) - 1 := by rw [Nat.pow_succ]; omega
  have hexp : ((expMax f - 1 : Nat) : Int) - expBias f - fracBits f = (expBias f : Int) - fracBits f := by omega
  rw [maxBits, fpVal_packBits_normal (by omega) (by omega) (by omega), hsig, hexp]

theorem fpVal_minNormalBits (f : Fmt) (neg : Bool) : fpVal f (minNormalBits f neg) =
    .fin neg (2 ^ fracBits f) (1 - (expBias f : Int) - fracBits f) := by
  have hmax := expMax_eq f
  have hbias := expBias_pos f
  rw [minNormalBits, fpVal_packBits_normal Nat.one_pos (by omega) (Nat.two_pow_pos _)]
  rfl

/-! Every pattern the arithmetic makes fits its format. -/

theorem infBits_lt (f : Fmt) (neg : Bool) : infBits f neg < 2 ^ (signBit f + 1) :=
  packBits_lt le_rfl (Nat.two_pow_pos _)

theorem zeroBits_lt (f : Fmt) (neg : Bool) : zeroBits f neg < 2 ^ (signBit f + 1) :=
  packBits_lt (Nat.zero_le _) (Nat.two_pow_pos _)

theorem maxBits_lt (f : Fmt) (neg : Bool) : maxBits f neg < 2 ^ (signBit f + 1) :=
  packBits_lt (Nat.sub_le _ _) (Nat.sub_lt (Nat.two_pow_pos _) Nat.one_pos)

theorem minNormalBits_lt (f : Fmt) (neg : Bool) : minNormalBits f neg < 2 ^ (signBit f + 1) :=
  packBits_lt (by rw [expMax_eq]; omega) (Nat.two_pow_pos _)

theorem defaultNan_lt (f : Fmt) : defaultNan f < 2 ^ (signBit f + 1) := by cases f <;> decide

theorem overflowBits_lt (f : Fmt) (rm : Rm) (neg : Bool) : overflowBits f rm neg < 2 ^ (signBit f + 1) := by
  cases rm with
  | nearest => exact infBits_lt f neg
  | zero => exact maxBits_lt f neg
  | up => cases neg with
    | false => exact infBits_lt f false
    | true => exact maxBits_lt f true
  | down => cases neg with
    | false => exact maxBits_lt f false
    | true => exact infBits_lt f true

theorem underflowBits_lt (f : Fmt) (rm : Rm) (neg : Bool) : underflowBits f rm neg < 2 ^ (signBit f + 1) := by
  cases rm with
  | nearest | zero => exact zeroBits_lt f neg
  | up => cases neg with
    | false => exact minNormalBits_lt f false
    | true => exact zeroBits_lt f true
  | down => cases neg with
    | false => exact zeroBits_lt f false
    | true => exact minNormalBits_lt f true

/-- The overflow result, by the side the mode rounds to (R707). -/
theorem fpVal_overflowBits (f : Fmt) (rm : Rm) (neg : Bool) : fpVal f (overflowBits f rm neg) =
    if rm = .nearest ∨ roundsAway rm neg = true then .inf neg
    else .fin neg (2 ^ (fracBits f + 1) - 1) ((expBias f : Int) - fracBits f) := by
  cases rm with
  | nearest => exact fpVal_infBits f neg
  | zero => exact fpVal_maxBits f neg
  | up => cases neg with
    | false => exact fpVal_infBits f false
    | true => exact fpVal_maxBits f true
  | down => cases neg with
    | false => exact fpVal_maxBits f false
    | true => exact fpVal_infBits f true

/-- The underflow result, by the side the mode rounds to (R709). -/
theorem fpVal_underflowBits (f : Fmt) (rm : Rm) (neg : Bool) : fpVal f (underflowBits f rm neg) =
    .fin neg (if roundsAway rm neg then 2 ^ fracBits f else 0) (1 - (expBias f : Int) - fracBits f) := by
  cases rm with
  | nearest | zero => exact fpVal_zeroBits f neg
  | up => cases neg with
    | false => exact fpVal_minNormalBits f false
    | true => exact fpVal_zeroBits f true
  | down => cases neg with
    | false => exact fpVal_zeroBits f false
    | true => exact fpVal_minNormalBits f true

end Sys2Proof.Machine
end

section
/-! SUPPORT. O57: one rounding. The exact magnitude is a number `x` of an ordered field, so that one development
serves the rationals (sums, products, quotients, conversions) and the reals (square roots) (47_fpu.md R707 to
R713). -/

namespace Sys2Proof.Machine

/-! `roundPack` in two parts: a significand with an exponent, and the pattern they make. -/

/-- How many bits the magnitude has beyond the precision. -/
def excessBits (f : Fmt) (m : Nat) : Nat := Nat.log2 m + 1 - (fracBits f + 1)

/-- The magnitude widened to the precision when it is shorter. -/
def widened (f : Fmt) (m : Nat) : Nat := m * 2 ^ (fracBits f + 1 - (Nat.log2 m + 1))

/-- The exponent of the last bit kept. -/
def unitExp (f : Fmt) (m : Nat) (e : Int) : Int :=
  e - ((fracBits f + 1 - (Nat.log2 m + 1) : Nat) : Int) + excessBits f m

/-- The bits kept, one added when the mode rounds up. -/
def roundedSig (f : Fmt) (rm : Rm) (neg : Bool) (m : Nat) (sticky : Bool) : Nat :=
  let q := widened f m / 2 ^ excessBits f m
  if roundsUp rm neg q (widened f m % 2 ^ excessBits f m) (excessBits f m) sticky then q + 1 else q

/-- A significand that the rounding carried to the next power of two. -/
def carriedSig (f : Fmt) (q : Nat) : Nat := if q == 2 ^ (fracBits f + 1) then 2 ^ fracBits f else q

def carriedExp (f : Fmt) (q : Nat) (e : Int) : Int := e + if q == 2 ^ (fracBits f + 1) then 1 else 0

/-- The pattern of the significand `q` and the exponent `e` of its last bit, or what is out of range (R707 to
R710). -/
def packAt (f : Fmt) (c : FpCtl) (neg : Bool) (q : Nat) (e : Int) (inexact : Bool) : FpOut :=
  let field : Int := e + expBias f + fracBits f
  if (expMax f : Int) ≤ field then { causes := causeO ||| causeI, bits := overflowBits f c.rm neg }
  else if field ≤ 0 then
    if c.enU || c.enI || !c.fs then { causes := causeE, bits := 0 }
    else { causes := causeU ||| causeI, bits := underflowBits f c.rm neg }
  else { causes := if inexact then causeI else 0, bits := packBits f neg field.toNat (q - 2 ^ fracBits f) }

theorem roundPack_eq (f : Fmt) (c : FpCtl) (neg : Bool) (m : Nat) (e : Int) (sticky : Bool) :
    roundPack f c neg m e sticky = packAt f c neg (carriedSig f (roundedSig f c.rm neg m sticky))
      (carriedExp f (roundedSig f c.rm neg m sticky) (unitExp f m e))
      (widened f m % 2 ^ excessBits f m != 0 || sticky) := rfl

/-! The sizes of the parts. -/

theorem widened_lt (f : Fmt) (m : Nat) : widened f m < 2 ^ (fracBits f + 1) * 2 ^ excessBits f m := by
  rw [widened, excessBits, ← Nat.pow_add]
  have hm : m < 2 ^ (Nat.log2 m + 1) := Nat.lt_log2_self
  calc m * 2 ^ (fracBits f + 1 - (Nat.log2 m + 1))
    _ < 2 ^ (Nat.log2 m + 1) * 2 ^ (fracBits f + 1 - (Nat.log2 m + 1)) :=
      Nat.mul_lt_mul_of_pos_right hm (Nat.two_pow_pos _)
    _ = 2 ^ (fracBits f + 1 + (Nat.log2 m + 1 - (fracBits f + 1))) := by
      rw [← Nat.pow_add]
      congr 1
      omega

theorem le_widened (f : Fmt) {m : Nat} (hm : m ≠ 0) : 2 ^ fracBits f * 2 ^ excessBits f m ≤ widened f m := by
  rw [widened, excessBits, ← Nat.pow_add]
  have hle : 2 ^ Nat.log2 m ≤ m := Nat.log2_self_le hm
  calc 2 ^ (fracBits f + (Nat.log2 m + 1 - (fracBits f + 1)))
    _ = 2 ^ Nat.log2 m * 2 ^ (fracBits f + 1 - (Nat.log2 m + 1)) := by
      rw [← Nat.pow_add]
      congr 1
      omega
    _ ≤ m * 2 ^ (fracBits f + 1 - (Nat.log2 m + 1)) := Nat.mul_le_mul_right _ hle

theorem quotient_lt (f : Fmt) (m : Nat) : widened f m / 2 ^ excessBits f m < 2 ^ (fracBits f + 1) :=
  Nat.div_lt_of_lt_mul ((widened_lt f m).trans_eq (Nat.mul_comm _ _))

theorem le_quotient (f : Fmt) {m : Nat} (hm : m ≠ 0) : 2 ^ fracBits f ≤ widened f m / 2 ^ excessBits f m :=
  (Nat.le_div_iff_mul_le (Nat.two_pow_pos _)).2 (le_widened f hm)

theorem roundedSig_le (f : Fmt) (rm : Rm) (neg : Bool) (m : Nat) (sticky : Bool) :
    roundedSig f rm neg m sticky ≤ 2 ^ (fracBits f + 1) := by
  have hq := quotient_lt f m
  unfold roundedSig
  dsimp only
  split
  · exact hq
  · exact hq.le

theorem carriedSig_lt {f : Fmt} {q : Nat} (hq : q ≤ 2 ^ (fracBits f + 1)) :
    carriedSig f q < 2 ^ (fracBits f + 1) := by
  unfold carriedSig
  split
  · exact Nat.pow_lt_pow_right Nat.one_lt_two (Nat.lt_succ_self _)
  · rename_i hne
    exact lt_of_le_of_ne hq fun h => hne (beq_iff_eq.2 h)

/-- A rounded pattern fits its format, whatever the magnitude. -/
theorem roundPack_lt (f : Fmt) (c : FpCtl) (neg : Bool) (m : Nat) (e : Int) (sticky : Bool) :
    (roundPack f c neg m e sticky).bits < 2 ^ (signBit f + 1) := by
  have hsig := carriedSig_lt (roundedSig_le f c.rm neg m sticky)
  rw [Nat.pow_succ] at hsig
  rw [roundPack_eq]
  unfold packAt
  dsimp only
  split
  · exact overflowBits_lt f c.rm neg
  · split
    · split
      · exact Nat.two_pow_pos _
      · exact underflowBits_lt f c.rm neg
    · exact packBits_lt (by omega) (by have := Nat.two_pow_pos (fracBits f); omega)

/-! Where a number lies among the multiples of the unit. -/

section
variable {K : Type} [Field K] [LinearOrder K] [IsStrictOrderedRing K]

/-- The number `y`, in units, lies at or above the integer `q` and below the next, and the mode takes the next
(R713). -/
def TakesNext (rm : Rm) (neg : Bool) (q : Nat) (y : K) : Prop :=
  match rm with
  | .nearest => 2 * (q : K) + 1 < 2 * y ∨ 2 * y = 2 * (q : K) + 1 ∧ q % 2 = 1
  | .zero => False
  | .up => neg = false ∧ (q : K) < y
  | .down => neg = true ∧ (q : K) < y

/-- The exact magnitude behind a numerator: the numerator itself, or a little more (`sticky`). -/
def Numerator (m : Nat) (sticky : Bool) (z : K) : Prop := if sticky then (m : K) < z ∧ z < m + 1 else z = m

theorem numerator_pos_iff {r : Nat} {sticky : Bool} {z : K} (hz : Numerator r sticky z) :
    0 < z ↔ (r != 0 || sticky) = true := by
  cases sticky with
  | false =>
    have hz : z = r := hz
    rw [hz, Nat.cast_pos, Bool.or_false, bne_iff_ne, Nat.pos_iff_ne_zero]
  | true =>
    have hz : (r : K) < z := hz.1
    simpa using (Nat.cast_nonneg r).trans_lt hz

/-- Half of an even number of units lies on no numerator with something below it. -/
theorem numerator_half_iff {r k : Nat} {sticky : Bool} {z : K} (hz : Numerator r sticky z)
    (hk : sticky = true → k ≠ 0) :
    (2 ^ k < 2 * z ↔ 2 ^ k < 2 * r ∨ 2 * r = 2 ^ k ∧ sticky = true)
      ∧ (2 * z = 2 ^ k ↔ 2 * r = 2 ^ k ∧ sticky = false) := by
  cases sticky with
  | false =>
    have hz : z = r := hz
    rw [hz]
    constructor
    · simp only [Bool.false_eq_true, and_false, or_false]
      exact_mod_cast Iff.rfl
    · simp only [and_true]
      exact_mod_cast Iff.rfl
  | true =>
    obtain ⟨hlo, hhi⟩ : (r : K) < z ∧ z < r + 1 := hz
    obtain ⟨j, rfl⟩ : ∃ j, k = j + 1 := Nat.exists_eq_add_one_of_ne_zero (hk rfl)
    rcases Nat.lt_or_ge (2 * r) (2 ^ (j + 1)) with hlt | hge
    · have hle : 2 * (r + 1) ≤ 2 ^ (j + 1) := by rw [Nat.pow_succ] at hlt ⊢; omega
      have hle' : 2 * ((r : K) + 1) ≤ 2 ^ (j + 1) := by exact_mod_cast hle
      exact ⟨⟨fun h => absurd h (by linarith), by omega⟩, ⟨fun h => absurd h (by linarith), nofun⟩⟩
    · have hge' : (2 : K) ^ (j + 1) ≤ 2 * r := by exact_mod_cast hge
      exact ⟨⟨fun _ => by simp; omega, fun _ => by linarith⟩, ⟨fun h => absurd h (by linarith), nofun⟩⟩

/-- `roundsUp` decides by the remainder and the sticky bit what `TakesNext` says of the number. -/
theorem roundsUp_iff {rm : Rm} {neg sticky : Bool} {q r k : Nat} {y : K}
    (hz : Numerator r sticky ((y - q) * 2 ^ k)) (hk : sticky = true → k ≠ 0) :
    roundsUp rm neg q r k sticky = true ↔ TakesNext rm neg q y := by
  have hpow : (0 : K) < 2 ^ k := by positivity
  have hpast : 2 * (q : K) + 1 < 2 * y ↔ 2 ^ k < 2 * ((y - q) * 2 ^ k) := by
    constructor <;> intro h <;> nlinarith
  have htie : 2 * y = 2 * (q : K) + 1 ↔ 2 * ((y - q) * 2 ^ k) = 2 ^ k := by
    constructor
    · intro h
      linear_combination (2 ^ k : K) * h
    · intro h
      refine mul_right_cancel₀ hpow.ne' ?_
      linear_combination h
  have habove : (q : K) < y ↔ (r != 0 || sticky) = true := by
    rw [← numerator_pos_iff hz, mul_pos_iff_of_pos_right hpow, sub_pos]
  obtain ⟨hpast', htie'⟩ := numerator_half_iff hz hk
  cases rm with
  | nearest =>
    simp only [roundsUp, TakesNext, hpast, htie, hpast', htie', Bool.or_eq_true, Bool.and_eq_true, decide_eq_true_eq,
      beq_iff_eq]
    cases sticky <;> simp
  | zero => simp [roundsUp, TakesNext]
  | up => rw [TakesNext, habove, roundsUp, Bool.and_eq_true, Bool.not_eq_true']
  | down => rw [TakesNext, habove, roundsUp, Bool.and_eq_true]

/-- The magnitude `x` of sign `neg`, rounded once to a significand `q` at the exponent `k`, without loss exactly
when `exact` (`RoundsTo`, for any ordered field). -/
def RoundedTo (rm : Rm) (neg : Bool) (x : K) (q : Nat) (k : Int) (exact : Prop) : Prop :=
  let r : K := (q : K) * 2 ^ k
  let u : K := 2 ^ k
  (exact ↔ r = x)
    ∧ (rm = .nearest → 2 * |r - x| ≤ u ∧ (2 * |r - x| = u → q % 2 = 0))
    ∧ (rm = .zero ∨ (rm = .up ∧ neg = true) ∨ (rm = .down ∧ neg = false) → r ≤ x ∧ x < r + u)
    ∧ ((rm = .up ∧ neg = false) ∨ (rm = .down ∧ neg = true) → x ≤ r ∧ r < x + u)

/-- The magnitude `x` is `2^t` or more after the rounding: `Overflows` and the negation of `Tiny` at their
bounds. -/
def RoundsPast (f : Fmt) (rm : Rm) (neg : Bool) (t : Int) (x : K) : Prop :=
  let u : K := 2 ^ (t - 1 - fracBits f)
  if rm = .nearest then 2 ^ t - u / 2 ≤ x else if roundsAway rm neg then 2 ^ t - u < x else 2 ^ t ≤ x

/-! The rounding in units: the last bit kept counts 1. -/

section
variable {rm : Rm} {neg : Bool} {q : Nat} {y : K} {up : Bool}

/-- Rounding to the next integer or not, as the mode says, is one rounding (R713). -/
theorem roundedTo_units (hle : (q : K) ≤ y) (hlt : y < q + 1) (hup : up = true ↔ TakesNext rm neg q y) :
    RoundedTo rm neg y (if up then q + 1 else q) 0 (y = q) := by
  unfold RoundedTo
  simp only [zpow_zero, mul_one]
  cases up with
  | true =>
    have hnext : TakesNext rm neg q y := hup.1 rfl
    have habs : |((q + 1 : Nat) : K) - y| = q + 1 - y := by
      rw [Nat.cast_succ, abs_of_pos (by linarith)]
    rw [if_pos rfl, habs, Nat.cast_succ]
    cases rm with
    | nearest =>
      have hhalf : 2 * (q : K) + 1 ≤ 2 * y := by
        obtain h | ⟨h, -⟩ := hnext
        · exact h.le
        · exact h.ge
      refine ⟨⟨fun h => ?_, fun h => ?_⟩, fun _ => ⟨by linarith, fun h => ?_⟩, by simp, by simp⟩
      · linarith
      · linarith
      · obtain h' | ⟨-, hodd⟩ := hnext
        · linarith
        · omega
    | zero => exact hnext.elim
    | up =>
      obtain ⟨rfl, habove⟩ := hnext
      exact ⟨⟨fun h => by linarith, fun h => by linarith⟩, nofun, by simp, fun _ => ⟨by linarith, by linarith⟩⟩
    | down =>
      obtain ⟨rfl, habove⟩ := hnext
      exact ⟨⟨fun h => by linarith, fun h => by linarith⟩, nofun, by simp, fun _ => ⟨by linarith, by linarith⟩⟩
  | false =>
    have hstay : ¬TakesNext rm neg q y := fun h => Bool.false_ne_true (hup.2 h)
    have habs : |(q : K) - y| = y - q := by rw [abs_sub_comm, abs_of_nonneg (by linarith)]
    rw [if_neg Bool.false_ne_true, habs]
    refine ⟨eq_comm, ?_, fun _ => ⟨hle, hlt⟩, fun hmode => ?_⟩
    · rintro rfl
      rw [TakesNext, not_or, not_lt, not_and] at hstay
      obtain ⟨hpast, htie⟩ := hstay
      refine ⟨by linarith, fun h => ?_⟩
      have := htie (by linarith)
      omega
    · have hy : y = q := by
        obtain ⟨rfl, rfl⟩ | ⟨rfl, rfl⟩ := hmode
        · exact le_antisymm (not_lt.1 fun h => hstay ⟨rfl, h⟩) hle
        · exact le_antisymm (not_lt.1 fun h => hstay ⟨rfl, h⟩) hle
      rw [hy]
      exact ⟨le_rfl, by linarith⟩

/-- A larger unit: the same rounding of the number as many times larger. -/
theorem RoundedTo.scale {exact : Prop} (h : RoundedTo rm neg y q 0 exact) (e : Int) :
    RoundedTo rm neg (y * 2 ^ e) q e exact := by
  have hu : (0 : K) < 2 ^ e := by positivity
  unfold RoundedTo at h ⊢
  simp only [zpow_zero, mul_one] at h
  obtain ⟨hexact, hnearest, hbelow, habove⟩ := h
  have habs : |(q : K) * 2 ^ e - y * 2 ^ e| = |(q : K) - y| * 2 ^ e := by
    rw [← sub_mul, abs_mul, abs_of_pos hu]
  dsimp only
  rw [habs]
  refine ⟨hexact.trans (mul_left_inj' hu.ne').symm, fun hm => ?_, fun hm => ?_, fun hm => ?_⟩
  · obtain ⟨hle, htie⟩ := hnearest hm
    exact ⟨by nlinarith, fun h => htie (mul_right_cancel₀ hu.ne' (by linarith))⟩
  · obtain ⟨hle, hlt⟩ := hbelow hm
    exact ⟨by nlinarith, by nlinarith⟩
  · obtain ⟨hle, hlt⟩ := habove hm
    exact ⟨by nlinarith, by nlinarith⟩

/-- The carry: half the significand in a unit twice as large is the same number. -/
theorem RoundedTo.carry {exact : Prop} {e : Int} {n : Nat} (hn : n ≠ 0)
    (h : RoundedTo rm neg y (2 ^ (n + 1)) e exact) :
    RoundedTo rm neg y (2 ^ n) (e + 1) exact := by
  have hu : (0 : K) < 2 ^ e := by positivity
  have hunit : (2 : K) ^ (e + 1) = 2 * 2 ^ e := by rw [zpow_add₀ two_ne_zero, zpow_one, mul_comm]
  have hvalue : ((2 ^ n : Nat) : K) * 2 ^ (e + 1) = ((2 ^ (n + 1) : Nat) : K) * 2 ^ e := by
    rw [hunit]
    push_cast
    ring
  have heven : 2 ^ n % 2 = 0 := Nat.mod_eq_zero_of_dvd (dvd_pow_self 2 hn)
  obtain ⟨hexact, hnearest, hbelow, habove⟩ := h
  unfold RoundedTo
  dsimp only
  rw [hvalue, hunit]
  refine ⟨hexact, fun hm => ⟨?_, fun _ => heven⟩, fun hm => ?_, fun hm => ?_⟩
  · linarith [(hnearest hm).1]
  · exact ⟨(hbelow hm).1, by linarith [(hbelow hm).2]⟩
  · exact ⟨(habove hm).1, by linarith [(habove hm).2]⟩

end

/-! When the rounded magnitude reaches a power of two. -/

section
variable {f : Fmt} {rm : Rm} {neg : Bool} {q : Nat} {y : K} {up : Bool}

theorem two_zpow_le_natCast_iff {d : Int} {n : Nat} : (2 : K) ^ d ≤ 2 ^ (n : Int) ↔ d ≤ n :=
  zpow_le_zpow_iff_right₀ one_lt_two

/-- The bound in units, below the significand's own power of two: reached. -/
theorem roundsPast_of_le {d : Int} (hlo : 2 ^ fracBits f ≤ q) (hle : (q : K) ≤ y) (hd : d ≤ fracBits f) :
    RoundsPast f rm neg d y := by
  have hu : (0 : K) < 2 ^ (d - 1 - (fracBits f : Int)) := by positivity
  have hy : (2 : K) ^ d ≤ y := by
    calc (2 : K) ^ d ≤ 2 ^ (fracBits f : Int) := two_zpow_le_natCast_iff.2 hd
      _ ≤ (q : K) := by rw [zpow_natCast]; exact_mod_cast hlo
      _ ≤ y := hle
  unfold RoundsPast
  dsimp only
  split
  · linarith
  · split
    · linarith
    · exact hy

/-- Two powers above it: not reached. -/
theorem not_roundsPast_of_le {d : Int} (hhi : q < 2 ^ (fracBits f + 1)) (hlt : y < q + 1)
    (hd : (fracBits f : Int) + 2 ≤ d) : ¬RoundsPast f rm neg d y := by
  have hy : y < 2 ^ (d - 1) := by
    calc y < (q : K) + 1 := hlt
      _ ≤ 2 ^ ((fracBits f + 1 : Nat) : Int) := by rw [zpow_natCast]; exact_mod_cast hhi
      _ ≤ 2 ^ (d - 1) := zpow_le_zpow_right₀ one_le_two (by omega)
  have hsplit : (2 : K) ^ d = 2 * 2 ^ (d - 1) := by
    rw [← zpow_one_add₀ two_ne_zero, add_sub_cancel]
  have hu : (2 : K) ^ (d - 1 - (fracBits f : Int)) ≤ 2 ^ (d - 1) := zpow_le_zpow_right₀ one_le_two (by omega)
  have hpos : (0 : K) < 2 ^ (d - 1) := by positivity
  unfold RoundsPast
  dsimp only
  split
  · linarith
  · split
    · linarith
    · linarith

/-- At the next power: reached exactly when the last significand is rounded up. -/
theorem roundsPast_top_iff (hhi : q < 2 ^ (fracBits f + 1)) (hlt : y < q + 1)
    (hup : up = true ↔ TakesNext rm neg q y) :
    RoundsPast f rm neg (fracBits f + 1) y ↔ 2 ^ (fracBits f + 1) ≤ if up then q + 1 else q := by
  have htop : (2 : K) ^ ((fracBits f : Int) + 1) = ((2 ^ (fracBits f + 1) : Nat) : K) := by
    rw [← Nat.cast_succ, zpow_natCast]
    push_cast
    rfl
  have hunit : (2 : K) ^ ((fracBits f : Int) + 1 - 1 - fracBits f) = 1 := by
    rw [add_sub_cancel_right, sub_self, zpow_zero]
  have hlast : 2 ^ (fracBits f + 1) ≤ (if up then q + 1 else q) ↔
      q + 1 = 2 ^ (fracBits f + 1) ∧ TakesNext rm neg q y := by
    rw [← hup]
    cases up
    · simpa using hhi
    · simp
      omega
  have heven : 2 ^ (fracBits f + 1) % 2 = 0 := by rw [Nat.pow_succ]; omega
  rw [hlast]
  unfold RoundsPast
  simp only [htop, hunit]
  generalize 2 ^ (fracBits f + 1) = top at hhi heven
  by_cases hq : q + 1 = top
  · have hlastq : (top : K) = q + 1 := by rw [← hq, Nat.cast_succ]
    have hodd : q % 2 = 1 := by omega
    rw [hlastq, and_iff_right hq]
    cases rm with
    | nearest =>
      simp only [if_true, TakesNext, hodd, and_true]
      constructor
      · intro h
        rcases h.lt_or_eq with h | h
        · exact .inl (by linarith)
        · exact .inr (by linarith)
      · rintro (h | h) <;> linarith
    | zero => simpa [TakesNext, roundsAway] using hlt
    | up => cases neg <;> simp [TakesNext, roundsAway, hlt]
    | down => cases neg <;> simp [TakesNext, roundsAway, hlt]
  · have hbelow : (q : K) + 2 ≤ top := by
      have h : q + 2 ≤ top := by omega
      exact_mod_cast h
    simp only [hq, false_and, iff_false]
    split
    · linarith
    · split
      · linarith
      · linarith

/-- The rounded significand, in units, reaches a power of two exactly when the mode's bound says so. -/
theorem roundsPast_units_iff (hlo : 2 ^ fracBits f ≤ q) (hhi : q < 2 ^ (fracBits f + 1)) (hle : (q : K) ≤ y)
    (hlt : y < q + 1) (hup : up = true ↔ TakesNext rm neg q y) (d : Int) :
    RoundsPast f rm neg d y ↔
      d ≤ fracBits f ∨ d = fracBits f + 1 ∧ 2 ^ (fracBits f + 1) ≤ if up then q + 1 else q := by
  rcases lt_trichotomy d (fracBits f + 1) with hd | rfl | hd
  · simp only [roundsPast_of_le hlo hle (Int.lt_add_one_iff.1 hd), Int.lt_add_one_iff.1 hd, true_or]
  · rw [roundsPast_top_iff hhi hlt hup]
    simp
  · have hno := not_roundsPast_of_le (rm := rm) (neg := neg) hhi hlt (d := d) (by omega)
    simp only [hno, false_iff, not_or, not_and]
    exact ⟨by omega, fun h => absurd h (by omega)⟩

theorem roundsPast_scale (d e : Int) : RoundsPast f rm neg (d + e) (y * 2 ^ e) ↔ RoundsPast f rm neg d y := by
  have hu : (0 : K) < 2 ^ e := by positivity
  have hpow : (2 : K) ^ (d + e) = 2 ^ d * 2 ^ e := zpow_add₀ two_ne_zero _ _
  have hunit : (2 : K) ^ (d + e - 1 - (fracBits f : Int)) = 2 ^ (d - 1 - (fracBits f : Int)) * 2 ^ e := by
    rw [← zpow_add₀ two_ne_zero]
    congr 1
    omega
  unfold RoundsPast
  simp only [hpow, hunit, mul_div_right_comm, ← sub_mul, mul_le_mul_iff_left₀ hu, mul_lt_mul_iff_left₀ hu]

end

/-! The whole rounding. -/

/-- What the rounding of the exact magnitude `x` leaves: a significand of the precision's length and the exponent
of its last bit. -/
structure Rounded (f : Fmt) (rm : Rm) (neg : Bool) (x : K) (q : Nat) (e : Int) (inexact : Bool) : Prop where
  lo : 2 ^ fracBits f ≤ q
  hi : q < 2 ^ (fracBits f + 1)
  near : RoundedTo rm neg x q e (inexact = false)
  reaches : ∀ t : Int, t ≤ e + fracBits f ↔ RoundsPast f rm neg t x

/-- The rounding of a number that lies at `q` or between it and the next, in units of `2^e`. -/
theorem rounded_of_units {f : Fmt} {rm : Rm} {neg up inexact : Bool} {q : Nat} {y : K} (e : Int)
    (hlo : 2 ^ fracBits f ≤ q) (hhi : q < 2 ^ (fracBits f + 1)) (hle : (q : K) ≤ y) (hlt : y < q + 1)
    (hup : up = true ↔ TakesNext rm neg q y) (hexact : inexact = false ↔ y = q) :
    Rounded f rm neg (y * 2 ^ e) (carriedSig f (if up then q + 1 else q))
      (carriedExp f (if up then q + 1 else q) e) inexact := by
  have hnear := (roundedTo_units hle hlt hup).scale e
  rw [← hexact] at hnear
  have hreach (t : Int) : RoundsPast f rm neg t (y * 2 ^ e) ↔
      t - e ≤ fracBits f ∨ t - e = fracBits f + 1 ∧ 2 ^ (fracBits f + 1) ≤ if up then q + 1 else q := by
    rw [← roundsPast_units_iff hlo hhi hle hlt hup, ← roundsPast_scale (t - e) e, Int.sub_add_cancel]
  by_cases hcarry : (if up then q + 1 else q) = 2 ^ (fracBits f + 1)
  · have hsig : carriedSig f (if up then q + 1 else q) = 2 ^ fracBits f := if_pos (beq_iff_eq.2 hcarry)
    have hexp : carriedExp f (if up then q + 1 else q) e = e + 1 := congrArg (e + ·) (if_pos (beq_iff_eq.2 hcarry))
    rw [hsig, hexp]
    rw [hcarry] at hnear
    refine ⟨le_rfl, Nat.pow_lt_pow_right Nat.one_lt_two (Nat.lt_succ_self _),
      hnear.carry (fracBits_pos f).ne', fun t => ?_⟩
    rw [hreach, hcarry]
    omega
  · have hsig : carriedSig f (if up then q + 1 else q) = if up then q + 1 else q :=
      if_neg fun h => hcarry (beq_iff_eq.1 h)
    have hexp : carriedExp f (if up then q + 1 else q) e = e :=
      (congrArg (e + ·) (if_neg fun h => hcarry (beq_iff_eq.1 h))).trans (Int.add_zero e)
    have hmax : (if up then q + 1 else q) ≤ 2 ^ (fracBits f + 1) := by
      cases up
      · simpa using hhi.le
      · simpa using hhi
    have hmin : q ≤ if up then q + 1 else q := by
      cases up <;> simp
    rw [hsig, hexp]
    refine ⟨hlo.trans hmin, lt_of_le_of_ne hmax hcarry, hnear, fun t => ?_⟩
    rw [hreach]
    omega

theorem Numerator.bounds {m : Nat} {sticky : Bool} {z : K} (hz : Numerator m sticky z) :
    (m : K) ≤ z ∧ z < m + 1 := by
  cases sticky with
  | false =>
    have hz : z = m := hz
    rw [hz]
    exact ⟨le_rfl, lt_add_one _⟩
  | true => exact ⟨hz.1.le, hz.2⟩

/-- The numerator that is left of the widened magnitude when its quotient is taken out. -/
theorem numerator_remainder (f : Fmt) {m : Nat} {sticky : Bool} {z : K} (hz : Numerator m sticky z)
    (hs : sticky = true → fracBits f + 1 ≤ Nat.log2 m) :
    Numerator (widened f m % 2 ^ excessBits f m) sticky
      ((z * 2 ^ (fracBits f + 1 - (Nat.log2 m + 1)) / 2 ^ excessBits f m
        - (widened f m / 2 ^ excessBits f m : Nat)) * 2 ^ excessBits f m) := by
  have hsplit : ((widened f m / 2 ^ excessBits f m : Nat) : K) * 2 ^ excessBits f m
      + (widened f m % 2 ^ excessBits f m : Nat) = m * 2 ^ (fracBits f + 1 - (Nat.log2 m + 1)) := by
    exact_mod_cast Nat.div_add_mod' (widened f m) (2 ^ excessBits f m)
  have hpow : (2 : K) ^ excessBits f m ≠ 0 := by positivity
  rw [sub_mul, div_mul_cancel₀ _ hpow]
  cases sticky with
  | false =>
    have hz : z = m := hz
    rw [Numerator, if_neg Bool.false_ne_true, hz]
    linear_combination -hsplit
  | true =>
    obtain ⟨hlo, hhi⟩ : (m : K) < z ∧ z < m + 1 := hz
    have hj : fracBits f + 1 - (Nat.log2 m + 1) = 0 := by
      have := hs rfl
      omega
    rw [hj, pow_zero, mul_one] at hsplit ⊢
    exact ⟨by linarith, by linarith⟩

/-- `roundPack` rounds the exact magnitude once: `m * 2^e`, or with `sticky` a number above it and below
`(m + 1) * 2^e`, which then has a bit below the precision. -/
theorem roundPack_rounded (f : Fmt) (c : FpCtl) (neg : Bool) {m : Nat} (e : Int) {sticky : Bool} {z : K}
    (hm : m ≠ 0) (hz : Numerator m sticky z) (hs : sticky = true → fracBits f + 1 ≤ Nat.log2 m) :
    ∃ q k inexact, Rounded f c.rm neg (z * 2 ^ e) q k inexact
      ∧ roundPack f c neg m e sticky = packAt f c neg q k inexact := by
  refine ⟨_, _, _, ?_, roundPack_eq f c neg m e sticky⟩
  have hrem := numerator_remainder f hz hs
  have hpow : (0 : K) < 2 ^ excessBits f m := by positivity
  have hvalue : z * 2 ^ e = z * 2 ^ (fracBits f + 1 - (Nat.log2 m + 1)) / 2 ^ excessBits f m * 2 ^ unitExp f m e := by
    rw [unitExp, zpow_add₀ two_ne_zero, zpow_sub₀ two_ne_zero, zpow_natCast, zpow_natCast]
    field_simp
  rw [hvalue]
  generalize z * 2 ^ (fracBits f + 1 - (Nat.log2 m + 1)) / 2 ^ excessBits f m = y at hrem
  have hexcess : sticky = true → excessBits f m ≠ 0 := fun h => by
    have := hs h
    unfold excessBits
    omega
  obtain ⟨hlo, hhi⟩ := hrem.bounds
  have hmod : ((widened f m % 2 ^ excessBits f m : Nat) : K) + 1 ≤ 2 ^ excessBits f m := by
    exact_mod_cast Nat.mod_lt (widened f m) (Nat.two_pow_pos _)
  have hle : ((widened f m / 2 ^ excessBits f m : Nat) : K) ≤ y :=
    sub_nonneg.1 (nonneg_of_mul_nonneg_left ((Nat.cast_nonneg _).trans hlo) hpow)
  have hlt : y < (widened f m / 2 ^ excessBits f m : Nat) + 1 := by
    have hone : (y - (widened f m / 2 ^ excessBits f m : Nat)) * 2 ^ excessBits f m < 1 * 2 ^ excessBits f m := by
      linarith
    linarith [lt_of_mul_lt_mul_right hone hpow.le]
  refine rounded_of_units (unitExp f m e) (le_quotient f hm) (quotient_lt f m) hle hlt (roundsUp_iff hrem hexcess) ?_
  rw [← Bool.not_eq_true, ← numerator_pos_iff hrem, mul_pos_iff_of_pos_right hpow, sub_pos, not_lt]
  exact ⟨fun h => le_antisymm h hle, fun h => h.le⟩

end

end Sys2Proof.Machine
end

section
/-! SUPPORT. O56, O57: what the pattern of a rounded significand stands for, and the operations on finite operands
as one rounding of their exact value (47_fpu.md R707 to R713). -/

namespace Sys2Proof.Machine

/-! The pattern of a significand, by the range its exponent falls in. -/

section
variable {f : Fmt} {c : FpCtl} {neg inexact : Bool} {q : Nat} {e : Int}

theorem packAt_overflow (h : (expBias f : Int) + 1 ≤ e + fracBits f) : packAt f c neg q e inexact =
    { causes := causeO ||| causeI, bits := overflowBits f c.rm neg } := by
  have hmax := expMax_eq f
  exact if_pos (by omega)

theorem packAt_tiny (h : e + fracBits f < 1 - (expBias f : Int)) : packAt f c neg q e inexact =
    if c.enU || c.enI || !c.fs then { causes := causeE, bits := 0 }
    else { causes := causeU ||| causeI, bits := underflowBits f c.rm neg } := by
  have hmax := expMax_eq f
  exact (if_neg (by omega)).trans (if_pos (by omega))

theorem packAt_normal (hlo : 1 - (expBias f : Int) ≤ e + fracBits f) (hhi : e + fracBits f < (expBias f : Int) + 1)
    (hq : 2 ^ fracBits f ≤ q) (hq' : q < 2 ^ (fracBits f + 1)) :
    (packAt f c neg q e inexact).causes = (if inexact then causeI else 0)
      ∧ fpVal f (packAt f c neg q e inexact).bits = .fin neg q e := by
  have hmax := expMax_eq f
  have hpack : packAt f c neg q e inexact = { causes := if inexact then causeI else 0
                                              bits := packBits f neg (e + expBias f + fracBits f).toNat
                                                (q - 2 ^ fracBits f) } :=
    (if_neg (by omega)).trans (if_neg (by omega))
  rw [Nat.pow_succ] at hq'
  rw [hpack]
  refine ⟨rfl, ?_⟩
  dsimp only
  rw [fpVal_packBits_normal (by omega) (by omega) (by omega), Nat.add_sub_cancel' hq]
  congr 1
  omega

end

/-! The bounds of the range. -/

theorem overflows_iff (f : Fmt) (rm : Rm) (neg : Bool) (x : ℚ) :
    Overflows f rm neg x ↔ RoundsPast f rm neg ((expBias f : Int) + 1) x := by
  unfold Overflows RoundsPast
  rw [add_sub_cancel_right]

theorem tiny_iff (f : Fmt) (rm : Rm) (neg : Bool) (x : ℚ) :
    Tiny f rm neg x ↔ ¬RoundsPast f rm neg (1 - (expBias f : Int)) x := by
  have hunit : 1 - (expBias f : Int) - 1 - fracBits f = -(expBias f : Int) - fracBits f := by omega
  unfold Tiny RoundsPast
  rw [hunit]
  dsimp only
  split
  · rw [not_le]
  · split
    · rw [not_lt]
    · rw [not_le]

/-! One rounding of a rational magnitude. -/

theorem not_onlyInexact_of_causes {o : FpOut} {causes : Causes} (ho : o.causes = causes) (h0 : causes ≠ 0)
    (hI : causes ≠ causeI) : ¬OnlyInexact o := by
  rintro (h | h)
  · exact h0 (ho.symm.trans h)
  · exact hI (ho.symm.trans h)

section
variable {f : Fmt} {c : FpCtl} {neg inexact : Bool} {x : ℚ} {q : Nat} {k : Int}

/-- Overflow and tininess by the exponent of the rounded significand. -/
theorem Rounded.overflows_iff (h : Rounded f c.rm neg x q k inexact) :
    Overflows f c.rm neg x ↔ (expBias f : Int) + 1 ≤ k + fracBits f := by
  rw [Machine.overflows_iff, h.reaches]

theorem Rounded.tiny_iff (h : Rounded f c.rm neg x q k inexact) :
    Tiny f c.rm neg x ↔ k + fracBits f < 1 - (expBias f : Int) := by
  rw [Machine.tiny_iff, ← h.reaches, not_le]

theorem Rounded.rangeResult (h : Rounded f c.rm neg x q k inexact) :
    RangeResult f c neg x (packAt f c neg q k inexact) := by
  refine ⟨fun ho => ?_, fun ht => ⟨fun htrap => ?_, fun hU hI hfs => ?_⟩, fun ho ht => ?_⟩
  · rw [packAt_overflow (h.overflows_iff.1 ho)]
    exact ⟨rfl, fpVal_overflowBits f c.rm neg⟩
  · rw [packAt_tiny (h.tiny_iff.1 ht), if_pos (by simpa [or_assoc] using htrap)]
  · rw [packAt_tiny (h.tiny_iff.1 ht), if_neg (by simp [hU, hI, hfs])]
    exact ⟨rfl, fpVal_underflowBits f c.rm neg⟩
  · rw [h.overflows_iff, not_le] at ho
    rw [h.tiny_iff, not_lt] at ht
    obtain ⟨hcauses, -⟩ := packAt_normal (c := c) (neg := neg) (inexact := inexact) ht ho h.lo h.hi
    cases inexact
    · exact .inl hcauses
    · exact .inr hcauses

/-- A result without a cause but Inexact is in range. -/
theorem inRange_of_onlyInexact (h : OnlyInexact (packAt f c neg q k inexact)) :
    1 - (expBias f : Int) ≤ k + fracBits f ∧ k + fracBits f < (expBias f : Int) + 1 := by
  constructor
  · by_contra hlt
    rw [packAt_tiny (not_le.1 hlt)] at h
    split at h
    · exact not_onlyInexact_of_causes (causes := causeE) rfl (by decide) (by decide) h
    · exact not_onlyInexact_of_causes (causes := causeU ||| causeI) rfl (by decide) (by decide) h
  · by_contra hle
    rw [packAt_overflow (not_lt.1 hle)] at h
    exact not_onlyInexact_of_causes (causes := causeO ||| causeI) rfl (by decide) (by decide) h

theorem Rounded.roundsTo (h : Rounded f c.rm neg x q k inexact) (ho : OnlyInexact (packAt f c neg q k inexact)) :
    RoundsTo f c.rm neg x (packAt f c neg q k inexact) := by
  obtain ⟨hlo, hhi⟩ := inRange_of_onlyInexact ho
  obtain ⟨hcauses, hval⟩ := packAt_normal (c := c) (neg := neg) (inexact := inexact) hlo hhi h.lo h.hi
  obtain ⟨hexact, hrest⟩ := h.near
  refine ⟨q, k, hval, Iff.trans ?_ hexact, hrest⟩
  rw [hcauses]
  cases inexact <;> decide

end

/-- `o` is the exact value `v` rounded once: as O57 says it of a non-zero value, and a zero without a cause where
`v` is 0. -/
structure Computes (f : Fmt) (c : FpCtl) (v : ℚ) (o : FpOut) : Prop where
  rounds : v ≠ 0 → OnlyInexact o → RoundsTo f c.rm (decide (v < 0)) |v| o
  range : v ≠ 0 → RangeResult f c (decide (v < 0)) |v| o
  zero : v = 0 → ∃ n, o = fpExact (zeroBits f n)

/-! Values. -/

/-- The factor of a sign. -/
def signFactor (neg : Bool) : ℚ := if neg then -1 else 1

theorem rat_fin (n : Bool) (m : Nat) (e : Int) : (FpVal.fin n m e).rat = signFactor n * (m * 2 ^ e) := mul_assoc _ _ _

theorem signFactor_ne_zero (n : Bool) : signFactor n ≠ 0 := by cases n <;> simp [signFactor]

theorem signFactor_mul (n n' : Bool) : signFactor n * signFactor n' = signFactor (n != n') := by
  cases n <;> cases n' <;> simp [signFactor]

/-- An integer from its sign and its size. -/
theorem signFactor_mul_natAbs (i : Int) : signFactor (decide (i < 0)) * (i.natAbs : ℚ) = i := by
  rw [Nat.cast_natAbs]
  rcases lt_or_ge i 0 with hneg | hpos
  · simp [signFactor, hneg, abs_of_neg hneg]
  · simp [signFactor, not_lt.2 hpos, abs_of_nonneg hpos]

theorem rat_fin_eq_zero_iff {n : Bool} {m : Nat} {e : Int} : (FpVal.fin n m e).rat = 0 ↔ m = 0 := by
  have hpow : (2 : ℚ) ^ e ≠ 0 := by positivity
  rw [rat_fin, mul_eq_zero, mul_eq_zero, Nat.cast_eq_zero]
  simp [signFactor_ne_zero, hpow]

/-- A signed magnitude that is not 0: its sign and its size. -/
theorem signFactor_mul_pos {n : Bool} {x v : ℚ} (hx : 0 < x) (hv : v = signFactor n * x) :
    v ≠ 0 ∧ decide (v < 0) = n ∧ |v| = x := by
  subst hv
  cases n
  · simp [signFactor, hx.ne', hx.le, abs_of_pos hx]
  · simp [signFactor, hx.ne', hx, abs_of_pos hx]

section
variable {f : Fmt} {c : FpCtl} {v : ℚ} {o : FpOut}

/-- A result without a cause is the exact value. -/
theorem Computes.exact (h : Computes f c v o) (ho : o.causes = 0) :
    (fpVal f o.bits).finite ∧ (fpVal f o.bits).rat = v := by
  by_cases hv : v = 0
  · obtain ⟨n, rfl⟩ := h.zero hv
    have hzero := fpVal_zeroBits f n
    rw [fpExact, hzero, hv]
    exact ⟨trivial, rat_fin_eq_zero_iff.2 rfl⟩
  · obtain ⟨q, k, hval, hexact, -⟩ := h.rounds hv (.inl ho)
    rw [hval, rat_fin, hexact.1 ho]
    refine ⟨trivial, ?_⟩
    rcases lt_or_gt_of_ne hv with hneg | hpos
    · simp [signFactor, hneg, abs_of_neg hneg]
    · simp [signFactor, abs_of_pos hpos, not_lt.2 hpos.le]

/-- A non-zero magnitude, rounded. -/
theorem computes_roundPack {neg sticky : Bool} {m : Nat} {e : Int} {z : ℚ} (hm : m ≠ 0) (hz : Numerator m sticky z)
    (hs : sticky = true → fracBits f + 1 ≤ Nat.log2 m) (hv : v = signFactor neg * (z * 2 ^ e)) :
    Computes f c v (roundPack f c neg m e sticky) := by
  have hpos : 0 < z * 2 ^ e := by
    have hm' : (0 : ℚ) < m := by exact_mod_cast Nat.pos_of_ne_zero hm
    have := hm'.trans_le hz.bounds.1
    positivity
  obtain ⟨hv0, hsign, habs⟩ := signFactor_mul_pos hpos hv
  obtain ⟨q, k, inexact, hrounded, hpack⟩ := roundPack_rounded f c neg e hm hz hs
  rw [hpack]
  refine ⟨fun _ ho => ?_, fun _ => ?_, fun h => absurd h hv0⟩
  · rw [hsign, habs]
    exact hrounded.roundsTo ho
  · rw [hsign, habs]
    exact hrounded.rangeResult

theorem computes_zero (hv : v = 0) (n : Bool) : Computes f c v (fpExact (zeroBits f n)) :=
  ⟨fun h => absurd hv h, fun h => absurd hv h, fun _ => ⟨n, rfl⟩⟩

/-! The operations on finite values. -/

theorem computes_roundVal (n : Bool) (m : Nat) (e : Int) :
    Computes f c (FpVal.fin n m e).rat (roundVal f c (.fin n m e)) := by
  by_cases hm : m = 0
  · rw [roundVal, if_pos hm]
    exact computes_zero (rat_fin_eq_zero_iff.2 hm) n
  · rw [roundVal, if_neg hm]
    exact computes_roundPack (sticky := false) hm rfl nofun (rat_fin n m e)

theorem signedMag_cast (n : Bool) (q : Nat) : (signedMag n q : ℚ) = signFactor n * q := by
  cases n with
  | false => simp [signedMag, signFactor]
  | true => simp [signedMag, signFactor]

/-- A magnitude at a smaller exponent. -/
theorem signedMag_mul_zpow (n : Bool) (m : Nat) {e e' : Int} (h : e' ≤ e) :
    (signedMag n (m * 2 ^ (e - e').toNat) : ℚ) * 2 ^ e' = (FpVal.fin n m e).rat := by
  have hpow : (2 : ℚ) ^ (e - e').toNat * 2 ^ e' = 2 ^ e := by
    rw [← zpow_natCast, ← zpow_add₀ two_ne_zero, Int.toNat_of_nonneg (by omega), Int.sub_add_cancel]
  rw [rat_fin, ← hpow, signedMag_cast]
  push_cast
  ring

/-- The sum of two finite values as an integer of units: which integer, and the rounding of it. -/
theorem addVals_fin (n1 : Bool) (m1 : Nat) (e1 : Int) (n2 : Bool) (m2 : Nat) (e2 : Int) :
    ∃ t : Int, (FpVal.fin n1 m1 e1).rat + (FpVal.fin n2 m2 e2).rat = t * 2 ^ min e1 e2
      ∧ addVals f c (.fin n1 m1 e1) (.fin n2 m2 e2) = if t = 0 then fpExact (zeroBits f (zeroSumSign c.rm n1 n2))
        else roundPack f c (decide (t < 0)) t.natAbs (min e1 e2) false := by
  refine ⟨_, ?_, rfl⟩
  rw [Int.cast_add, add_mul, signedMag_mul_zpow n1 m1 (min_le_left e1 e2),
    signedMag_mul_zpow n2 m2 (min_le_right e1 e2)]

theorem computes_addVals (n1 : Bool) (m1 : Nat) (e1 : Int) (n2 : Bool) (m2 : Nat) (e2 : Int) :
    Computes f c ((FpVal.fin n1 m1 e1).rat + (FpVal.fin n2 m2 e2).rat)
      (addVals f c (.fin n1 m1 e1) (.fin n2 m2 e2)) := by
  obtain ⟨t, hsum, hadd⟩ := addVals_fin (f := f) (c := c) n1 m1 e1 n2 m2 e2
  rw [hsum, hadd]
  by_cases ht : t = 0
  · rw [if_pos ht]
    exact computes_zero (by simp [ht]) _
  · rw [if_neg ht]
    refine computes_roundPack (sticky := false) (Int.natAbs_ne_zero.2 ht) rfl nofun ?_
    rw [← mul_assoc, signFactor_mul_natAbs]

theorem rat_mul_fin (n1 : Bool) (m1 : Nat) (e1 : Int) (n2 : Bool) (m2 : Nat) (e2 : Int) :
    (FpVal.fin (n1 != n2) (m1 * m2) (e1 + e2)).rat = (FpVal.fin n1 m1 e1).rat * (FpVal.fin n2 m2 e2).rat := by
  rw [rat_fin, rat_fin, rat_fin, ← signFactor_mul, zpow_add₀ two_ne_zero, Nat.cast_mul]
  ring

theorem rat_negVal (v : FpVal) : (negVal v).rat = -v.rat := by
  cases v with
  | fin n m e =>
    rw [negVal, rat_fin, rat_fin]
    cases n <;> simp [signFactor]
  | inf | qnan | snan => exact neg_zero.symm

theorem finite_negVal {v : FpVal} (h : v.finite) : (negVal v).finite := by
  cases v with
  | fin => trivial
  | inf | qnan | snan => exact h

/-- The quotient keeps at least two bits below the precision when the dividend has the precision's length. -/
theorem computes_divVals {n1 : Bool} {m1 : Nat} {e1 : Int} {n2 : Bool} {m2 : Nat} {e2 : Int} (h2 : m2 ≠ 0)
    (hm1 : m1 ≠ 0 → 2 ^ fracBits f ≤ m1) (hm2 : m2 < 2 ^ (fracBits f + 1)) :
    Computes f c ((FpVal.fin n1 m1 e1).rat / (FpVal.fin n2 m2 e2).rat)
      (divVals f c (.fin n1 m1 e1) (.fin n2 m2 e2)) := by
  unfold divVals
  dsimp only
  rw [if_neg h2]
  by_cases h1 : m1 = 0
  · rw [if_pos h1, rat_fin_eq_zero_iff.2 h1, zero_div]
    exact computes_zero rfl _
  · rw [if_neg h1]
    have hm2' : (0 : ℚ) < m2 := by exact_mod_cast Nat.pos_of_ne_zero h2
    have hlong : 2 ^ (fracBits f + 1) ≤ m1 * 2 ^ (fracBits f + 4) / m2 := by
      rw [Nat.le_div_iff_mul_le (Nat.pos_of_ne_zero h2)]
      calc 2 ^ (fracBits f + 1) * m2 ≤ 2 ^ (fracBits f + 1) * 2 ^ (fracBits f + 1) := Nat.mul_le_mul_left _ hm2.le
        _ ≤ 2 ^ fracBits f * 2 ^ (fracBits f + 4) := by
          rw [← Nat.pow_add, ← Nat.pow_add]
          exact Nat.pow_le_pow_right Nat.two_pos (by omega)
        _ ≤ m1 * 2 ^ (fracBits f + 4) := Nat.mul_le_mul_right _ (hm1 h1)
    have hd0 : m1 * 2 ^ (fracBits f + 4) / m2 ≠ 0 := (Nat.two_pow_pos _).trans_le hlong |>.ne'
    have hsplit : (m2 : ℚ) * (m1 * 2 ^ (fracBits f + 4) / m2 : Nat) + (m1 * 2 ^ (fracBits f + 4) % m2 : Nat)
        = m1 * 2 ^ (fracBits f + 4) := by
      exact_mod_cast Nat.div_add_mod (m1 * 2 ^ (fracBits f + 4)) m2
    have hrem : ((m1 * 2 ^ (fracBits f + 4) % m2 : Nat) : ℚ) < m2 := by
      exact_mod_cast Nat.mod_lt _ (Nat.pos_of_ne_zero h2)
    refine computes_roundPack (z := (m1 * 2 ^ (fracBits f + 4) : ℚ) / m2) hd0 ?_
      (fun _ => (Nat.le_log2 hd0).2 hlong) ?_
    · unfold Numerator
      split
      · rename_i hr
        have hpos : (0 : ℚ) < (m1 * 2 ^ (fracBits f + 4) % m2 : Nat) := by
          exact_mod_cast Nat.pos_of_ne_zero (bne_iff_ne.1 hr)
        rw [lt_div_iff₀ hm2', div_lt_iff₀ hm2']
        exact ⟨by linarith, by linarith⟩
      · rename_i hr
        have hzero : m1 * 2 ^ (fracBits f + 4) % m2 = 0 := by simpa using hr
        rw [hzero, Nat.cast_zero, add_zero] at hsplit
        rw [← hsplit, mul_div_cancel_left₀ _ hm2'.ne']
    · have hpow : (2 : ℚ) ^ (e1 - e2 - ((fracBits f + 4 : Nat) : Int)) = 2 ^ e1 / 2 ^ e2 / 2 ^ (fracBits f + 4) := by
        rw [zpow_sub₀ two_ne_zero, zpow_sub₀ two_ne_zero, zpow_natCast]
      have hsign : signFactor n1 / signFactor n2 = signFactor (n1 != n2) := by
        cases n1 <;> cases n2 <;> norm_num [signFactor]
      rw [rat_fin, rat_fin, mul_div_mul_comm, hsign, hpow]
      field_simp

end

end Sys2Proof.Machine
end

section
/-! SUPPORT. O55 to O57: the operations by their operands (47_fpu.md R704, R705): a pattern the hardware leaves out,
a signaling NaN, and else the values. -/

namespace Sys2Proof.Machine

/-! The values of patterns. -/

section
variable {f : Fmt} {a : Nat} {n : Bool} {m : Nat} {e : Int}

/-- The three kinds of pattern, by the exponent field (R702). -/
theorem fpVal_cases (f : Fmt) (a : Nat) :
    (fpVal f a = .inf (fpNeg f a) ∨ fpVal f a = .snan ∨ fpVal f a = .qnan)
      ∨ fpExp f a = 0 ∧ fpVal f a = .fin (fpNeg f a) (fpFrac f a) (1 - (expBias f : Int) - fracBits f)
      ∨ 0 < fpExp f a ∧ fpExp f a < expMax f
        ∧ fpVal f a =
          .fin (fpNeg f a) (2 ^ fracBits f + fpFrac f a) ((fpExp f a : Int) - expBias f - fracBits f) := by
  have hexp : fpExp f a < expMax f + 1 := Nat.mod_lt _ (Nat.succ_pos _)
  unfold fpVal
  dsimp only
  by_cases hmax : fpExp f a = expMax f
  · rw [if_pos hmax]
    left
    split
    · exact .inl rfl
    · split
      · exact .inr (.inl rfl)
      · exact .inr (.inr rfl)
  · rw [if_neg hmax]
    by_cases h0 : fpExp f a = 0
    · exact .inr (.inl ⟨h0, if_pos h0⟩)
    · exact .inr (.inr ⟨Nat.pos_of_ne_zero h0, by omega, if_neg h0⟩)

theorem exists_fin (h : (fpVal f a).finite) : ∃ m e, fpVal f a = .fin (fpNeg f a) m e := by
  obtain (hv | hv | hv) | ⟨-, hv⟩ | ⟨-, -, hv⟩ := fpVal_cases f a
  · exact (hv ▸ h : (FpVal.inf _).finite).elim
  · exact (hv ▸ h : FpVal.snan.finite).elim
  · exact (hv ▸ h : FpVal.qnan.finite).elim
  · exact ⟨_, _, hv⟩
  · exact ⟨_, _, hv⟩

/-- The sign of an infinity is the pattern's. -/
theorem fpVal_inf_sign (h : fpVal f a = .inf n) : n = fpNeg f a := by
  obtain (hv | hv | hv) | ⟨-, hv⟩ | ⟨-, -, hv⟩ := fpVal_cases f a
  · exact FpVal.inf.inj (h.symm.trans hv)
  · exact absurd (h.symm.trans hv) nofun
  · exact absurd (h.symm.trans hv) nofun
  · exact absurd (h.symm.trans hv) nofun
  · exact absurd (h.symm.trans hv) nofun

/-- A finite pattern that is not subnormal is a zero, or has the precision's length and an exponent in range. -/
theorem fin_bounds (h : fpVal f a = .fin n m e) (hs : fpSubnormal f a = false) :
    m < 2 ^ (fracBits f + 1) ∧ (m ≠ 0 → 2 ^ fracBits f ≤ m
      ∧ 1 - (expBias f : Int) - fracBits f ≤ e ∧ e ≤ (expBias f : Int) - fracBits f) := by
  have hmax := expMax_eq f
  have hfrac : fpFrac f a < 2 ^ fracBits f := Nat.mod_lt _ (Nat.two_pow_pos _)
  rw [Nat.pow_succ]
  obtain (hv | hv | hv) | ⟨h0, hv⟩ | ⟨hlo, hhi, hv⟩ := fpVal_cases f a
  · exact absurd (h.symm.trans hv) nofun
  · exact absurd (h.symm.trans hv) nofun
  · exact absurd (h.symm.trans hv) nofun
  · have hzero : fpFrac f a = 0 := by
      simpa [fpSubnormal, h0] using hs
    obtain ⟨-, rfl, -⟩ := FpVal.fin.inj (h.symm.trans hv)
    exact ⟨by omega, fun hne => absurd hzero hne⟩
  · obtain ⟨-, rfl, rfl⟩ := FpVal.fin.inj (h.symm.trans hv)
    exact ⟨by omega, fun _ => by omega⟩

/-- A subnormal pattern is finite. -/
theorem finite_of_subnormal (h : fpSubnormal f a = true) : (fpVal f a).finite := by
  have h0 : fpExp f a = 0 := by
    simpa using (Bool.and_eq_true_iff.1 h).1
  have hmax := expMax_eq f
  have hv : fpVal f a = .fin (fpNeg f a) (fpFrac f a) (1 - (expBias f : Int) - fracBits f) :=
    (if_neg (by omega)).trans (if_pos h0)
  rw [hv]
  trivial

end

/-! The operand conditions. -/

/-- An operand that takes part in no operation: subnormal, or a quiet NaN (R704, R705 f). -/
def Unusable (f : Fmt) (v : Nat) : Prop := fpSubnormal f v = true ∨ fpQuiet f v = true

section
variable {f : Fmt} {ops : List Nat} {v : Nat}

theorem operandCauses_unusable (hv : v ∈ ops) (h : Unusable f v) :
    operandCauses f ops = some { causes := causeE, bits := 0 } :=
  if_pos (List.any_eq_true.2 ⟨v, hv, Bool.or_eq_true_iff.2 h⟩)

theorem not_any_unusable (h : ∀ v ∈ ops, ¬Unusable f v) :
    ¬ops.any (fun v => fpSubnormal f v || fpQuiet f v) = true := by
  rw [List.any_eq_true]
  rintro ⟨v, hv, hbad⟩
  exact h v hv (Bool.or_eq_true_iff.1 hbad)

theorem operandCauses_signaling (h : ∀ v ∈ ops, ¬Unusable f v) (hv : v ∈ ops) (hs : fpSignaling f v = true) :
    operandCauses f ops = some (fpInvalid f) :=
  (if_neg (not_any_unusable h)).trans (if_pos (List.any_eq_true.2 ⟨v, hv, hs⟩))

theorem operandCauses_none (h : ∀ v ∈ ops, ¬Unusable f v) (hs : ∀ v ∈ ops, fpSignaling f v = false) :
    operandCauses f ops = none := by
  refine (if_neg (not_any_unusable h)).trans (if_neg ?_)
  rw [List.any_eq_true]
  rintro ⟨v, hv, hsig⟩
  exact Bool.false_ne_true ((hs v hv).symm.trans hsig)

theorem not_quiet_of_finite (h : (fpVal f v).finite) : fpQuiet f v = false := by
  unfold fpQuiet
  cases hv : fpVal f v with
  | fin | inf | snan => rfl
  | qnan => rw [hv] at h; exact h.elim

theorem not_signaling_of_finite (h : (fpVal f v).finite) : fpSignaling f v = false := by
  unfold fpSignaling
  cases hv : fpVal f v with
  | fin | inf | qnan => rfl
  | snan => rw [hv] at h; exact h.elim

theorem not_unusable_of_finite (h : (fpVal f v).finite) (hs : fpSubnormal f v = false) : ¬Unusable f v := by
  rintro (hsub | hq)
  · exact Bool.false_ne_true (hs.symm.trans hsub)
  · exact Bool.false_ne_true ((not_quiet_of_finite h).symm.trans hq)

/-- Finite operands are all taken, or one is subnormal. -/
theorem operandCauses_finite (h : ∀ v ∈ ops, (fpVal f v).finite) :
    operandCauses f ops = none ∧ (∀ v ∈ ops, fpSubnormal f v = false)
      ∨ operandCauses f ops = some { causes := causeE, bits := 0 } ∧ ∃ v ∈ ops, fpSubnormal f v = true := by
  by_cases hs : ∃ v ∈ ops, fpSubnormal f v = true
  · obtain ⟨v, hv, hsub⟩ := hs
    exact .inr ⟨operandCauses_unusable hv (.inl hsub), v, hv, hsub⟩
  · have hsub (v : Nat) (hv : v ∈ ops) : fpSubnormal f v = false := Bool.eq_false_iff.2 fun h => hs ⟨v, hv, h⟩
    exact .inl ⟨operandCauses_none (fun v hv => not_unusable_of_finite (h v hv) (hsub v hv))
      fun v hv => not_signaling_of_finite (h v hv), hsub⟩

theorem not_signaling_of_inf {n : Bool} (h : fpVal f v = .inf n) : fpSignaling f v = false := by
  rw [fpSignaling, h]
  rfl

theorem not_unusable_of_inf {n : Bool} (h : fpVal f v = .inf n) : ¬Unusable f v := by
  rintro (hs | hq)
  · have hfin := finite_of_subnormal hs
    rw [h] at hfin
    exact hfin
  · rw [fpQuiet, h] at hq
    exact absurd (beq_iff_eq.1 hq) nofun

theorem not_unusable_of_signaling (h : fpSignaling f v = true) : ¬Unusable f v := by
  rintro (hs | hq)
  · exact Bool.false_ne_true ((not_signaling_of_finite (finite_of_subnormal hs)).symm.trans h)
  · have hv : fpVal f v = .qnan := beq_iff_eq.1 hq
    rw [fpSignaling, hv] at h
    exact absurd h (by decide)

end

/-! Each operation: the operand conditions first. -/

section
variable (f : Fmt) (c : FpCtl) (sub : Bool) (a b d : Nat)

theorem fpAdd_eq : fpAdd f c a b = (operandCauses f [a, b]).getD (addVals f c (fpVal f a) (fpVal f b)) := by
  unfold fpAdd
  cases operandCauses f [a, b] <;> rfl

theorem fpSub_eq : fpSub f c a b = (operandCauses f [a, b]).getD (addVals f c (fpVal f a) (negVal (fpVal f b))) := by
  unfold fpSub
  cases operandCauses f [a, b] <;> rfl

/-- The product of two values, rounded (R723). -/
def mulVals (x y : FpVal) : FpOut := ((mulExact x y).map (roundVal f c)).getD (fpInvalid f)

theorem fpMul_eq : fpMul f c a b = (operandCauses f [a, b]).getD (mulVals f c (fpVal f a) (fpVal f b)) := by
  unfold fpMul mulVals
  cases operandCauses f [a, b] <;> cases mulExact (fpVal f a) (fpVal f b) <;> rfl

theorem fpDiv_eq : fpDiv f c a b = (operandCauses f [a, b]).getD (divVals f c (fpVal f a) (fpVal f b)) := by
  unfold fpDiv
  cases operandCauses f [a, b] <;> rfl

theorem fpSqrt_eq : fpSqrt f c a = (operandCauses f [a]).getD (sqrtVal f c (fpVal f a)) := by
  unfold fpSqrt
  cases operandCauses f [a] <;> rfl

theorem fpAbs_eq : fpAbs f a = (operandCauses f [a]).getD (fpExact (a % 2 ^ signBit f)) := by
  unfold fpAbs
  cases operandCauses f [a] <;> rfl

theorem fpNegate_eq : fpNegate f a = (operandCauses f [a]).getD (fpExact (a ^^^ 2 ^ signBit f)) := by
  unfold fpNegate
  cases operandCauses f [a] <;> rfl

/-- The product of two values plus a third, rounded once (R780). -/
def maddVals (x y z : FpVal) : FpOut := ((mulExact x y).map (addVals f c · z)).getD (fpInvalid f)

theorem fpMadd_eq : fpMadd f c sub a b d = (operandCauses f [a, b, d]).getD
    (maddVals f c (fpVal f a) (fpVal f b) (if sub then negVal (fpVal f d) else fpVal f d)) := by
  unfold fpMadd maddVals
  cases operandCauses f [a, b, d] <;> cases mulExact (fpVal f a) (fpVal f b) <;> rfl

end

/-! Each operation on finite operands is one rounding of its exact value. -/

section
variable {f : Fmt} {c : FpCtl} {a b d : Nat}

/-- Of finite operands a result without E is the operation's. -/
theorem operandCauses_getD {ops : List Nat} {body : FpOut} (h : ∀ v ∈ ops, (fpVal f v).finite)
    (ho : OnlyInexact ((operandCauses f ops).getD body) ∨ ∀ v ∈ ops, fpSubnormal f v = false) :
    (operandCauses f ops).getD body = body ∧ ∀ v ∈ ops, fpSubnormal f v = false := by
  rcases operandCauses_finite h with ⟨hnone, hsub⟩ | ⟨hE, v, hv, hsub⟩
  · exact ⟨by rw [hnone]; rfl, hsub⟩
  · rcases ho with ho | hno
    · rw [hE] at ho
      exact absurd ho (not_onlyInexact_of_causes (causes := causeE) rfl (by decide) (by decide))
    · exact absurd hsub (by simp [hno v hv])

theorem forall_mem_two {α : Type} {p : α → Prop} {a b : α} (ha : p a) (hb : p b) :
    ∀ v ∈ [a, b], p v := by simp [ha, hb]

theorem forall_mem_three {p : Nat → Prop} (ha : p a) (hb : p b) (hd : p d) : ∀ v ∈ [a, b, d], p v := by
  simp [ha, hb, hd]

/-- The result has no cause but Inexact, or the operands are not subnormal. -/
def Taken (f : Fmt) (ops : List Nat) (o : FpOut) : Prop := OnlyInexact o ∨ ∀ v ∈ ops, fpSubnormal f v = false

theorem computes_add {x y : FpVal} (hx : x.finite) (hy : y.finite) :
    Computes f c (x.rat + y.rat) (addVals f c x y) := by
  cases x with
  | fin n1 m1 e1 =>
    cases y with
    | fin n2 m2 e2 => exact computes_addVals n1 m1 e1 n2 m2 e2
    | inf | qnan | snan => exact hy.elim
  | inf | qnan | snan => exact hx.elim

/-- The product of finite values is finite and exact. -/
theorem mulExact_finite {x y : FpVal} (hx : x.finite) (hy : y.finite) :
    ∃ n m e, mulExact x y = some (.fin n m e) ∧ (FpVal.fin n m e).rat = x.rat * y.rat := by
  cases x with
  | fin n1 m1 e1 =>
    cases y with
    | fin n2 m2 e2 => exact ⟨_, _, _, rfl, rat_mul_fin n1 m1 e1 n2 m2 e2⟩
    | inf | qnan | snan => exact hy.elim
  | inf | qnan | snan => exact hx.elim

theorem computes_mulVals {x y : FpVal} (hx : x.finite) (hy : y.finite) :
    Computes f c (x.rat * y.rat) (mulVals f c x y) := by
  obtain ⟨n, m, e, hmul, hrat⟩ := mulExact_finite hx hy
  rw [mulVals, hmul, ← hrat]
  exact computes_roundVal n m e

theorem computes_maddVals {x y z : FpVal} (hx : x.finite) (hy : y.finite) (hz : z.finite) :
    Computes f c (x.rat * y.rat + z.rat) (maddVals f c x y z) := by
  obtain ⟨n, m, e, hmul, hrat⟩ := mulExact_finite hx hy
  rw [maddVals, hmul, ← hrat]
  exact computes_add trivial hz

variable (ha : (fpVal f a).finite) (hb : (fpVal f b).finite)
include ha hb

theorem computes_fpAdd (ho : Taken f [a, b] (fpAdd f c a b)) :
    Computes f c ((fpVal f a).rat + (fpVal f b).rat) (fpAdd f c a b) := by
  rw [fpAdd_eq] at ho ⊢
  rw [(operandCauses_getD (forall_mem_two ha hb) ho).1]
  exact computes_add ha hb

theorem computes_fpSub (ho : Taken f [a, b] (fpSub f c a b)) :
    Computes f c ((fpVal f a).rat - (fpVal f b).rat) (fpSub f c a b) := by
  rw [fpSub_eq] at ho ⊢
  rw [(operandCauses_getD (forall_mem_two ha hb) ho).1, sub_eq_add_neg, ← rat_negVal]
  exact computes_add ha (finite_negVal hb)

theorem computes_fpMul (ho : Taken f [a, b] (fpMul f c a b)) :
    Computes f c ((fpVal f a).rat * (fpVal f b).rat) (fpMul f c a b) := by
  rw [fpMul_eq] at ho ⊢
  rw [(operandCauses_getD (forall_mem_two ha hb) ho).1]
  exact computes_mulVals ha hb

theorem computes_fpDiv (hy : (fpVal f b).rat ≠ 0) (ho : Taken f [a, b] (fpDiv f c a b)) :
    Computes f c ((fpVal f a).rat / (fpVal f b).rat) (fpDiv f c a b) := by
  rw [fpDiv_eq] at ho ⊢
  obtain ⟨hbody, hsub⟩ := operandCauses_getD (forall_mem_two ha hb) ho
  obtain ⟨m1, e1, hv1⟩ := exists_fin ha
  obtain ⟨m2, e2, hv2⟩ := exists_fin hb
  obtain ⟨-, hm1⟩ := fin_bounds hv1 (hsub a (by simp))
  obtain ⟨hm2, -⟩ := fin_bounds hv2 (hsub b (by simp))
  rw [hv2, Ne, rat_fin_eq_zero_iff] at hy
  rw [hbody, hv1, hv2]
  exact computes_divVals hy (fun h => (hm1 h).1) hm2

theorem computes_fpMadd (hd : (fpVal f d).finite) (ho : Taken f [a, b, d] (fpMadd f c false a b d)) :
    Computes f c ((fpVal f a).rat * (fpVal f b).rat + (fpVal f d).rat) (fpMadd f c false a b d) := by
  rw [fpMadd_eq] at ho ⊢
  rw [(operandCauses_getD (forall_mem_three ha hb hd) ho).1]
  exact computes_maddVals ha hb hd

theorem computes_fpMsub (hd : (fpVal f d).finite) (ho : Taken f [a, b, d] (fpMadd f c true a b d)) :
    Computes f c ((fpVal f a).rat * (fpVal f b).rat - (fpVal f d).rat) (fpMadd f c true a b d) := by
  rw [fpMadd_eq] at ho ⊢
  rw [(operandCauses_getD (forall_mem_three ha hb hd) ho).1, sub_eq_add_neg, ← rat_negVal]
  exact computes_maddVals ha hb (finite_negVal hd)

end

/-! Conversions. -/

section
variable {f g : Fmt} {c : FpCtl} {a : Nat}

theorem fpToFp_unusable (h : Unusable f a) : fpToFp f g c a = { causes := causeE, bits := 0 } :=
  if_pos (Bool.or_eq_true_iff.2 h)

theorem fpToFp_signaling (h : ¬Unusable f a) (hs : fpSignaling f a = true) : fpToFp f g c a = fpInvalid g :=
  (if_neg fun hu => h (Bool.or_eq_true_iff.1 hu)).trans (if_pos hs)

theorem fpToFp_value (h : ¬Unusable f a) (hs : fpSignaling f a = false) :
    fpToFp f g c a = roundVal g c (fpVal f a) :=
  (if_neg fun hu => h (Bool.or_eq_true_iff.1 hu)).trans (if_neg (by simp [hs]))

theorem computes_fpToFp (ha : (fpVal f a).finite)
    (ho : OnlyInexact (fpToFp f g c a) ∨ fpSubnormal f a = false) :
    Computes g c (fpVal f a).rat (fpToFp f g c a) := by
  have hsub : fpSubnormal f a = false := by
    rcases ho with ho | hs
    · by_contra hne
      rw [fpToFp_unusable (.inl (by simpa using hne))] at ho
      exact not_onlyInexact_of_causes (causes := causeE) rfl (by decide) (by decide) ho
    · exact hs
  rw [fpToFp_value (not_unusable_of_finite ha hsub) (not_signaling_of_finite ha)]
  obtain ⟨m, e, hv⟩ := exists_fin ha
  rw [hv]
  exact computes_roundVal _ m e

theorem computes_intToFp (f : Fmt) (c : FpCtl) (i : Int) : Computes f c i (intToFp f c i) := by
  have hrat : (FpVal.fin (decide (i < 0)) i.natAbs 0).rat = i := by
    rw [rat_fin, zpow_zero, mul_one, signFactor_mul_natAbs]
  rw [← hrat]
  exact computes_roundVal _ _ _

end

end Sys2Proof.Machine
end

section
/-! SUPPORT. O56, O57: the square root, as one rounding of a real number (47_fpu.md R725). -/

namespace Sys2Proof.Machine

/-! The integer root, bit by bit. -/

/-- After the bits below `k` are tried the root is exact, when it was below `r + 2^k` before. -/
theorem isqrtFrom_bounds (n : Nat) : ∀ (k r : Nat), r * r ≤ n → n < (r + 2 ^ k) * (r + 2 ^ k) →
    isqrtFrom n k r * isqrtFrom n k r ≤ n ∧ n < (isqrtFrom n k r + 1) * (isqrtFrom n k r + 1)
  | 0, _, hlo, hhi => ⟨hlo, hhi⟩
  | k + 1, r, hlo, hhi => by
    rw [isqrtFrom]
    rw [Nat.pow_succ] at hhi
    by_cases hbit : (r + 2 ^ k) * (r + 2 ^ k) ≤ n
    · rw [if_pos hbit]
      exact isqrtFrom_bounds n k _ hbit (by rwa [Nat.add_assoc, ← Nat.mul_two])
    · rw [if_neg hbit]
      exact isqrtFrom_bounds n k r hlo (not_le.1 hbit)

/-- The root of an integer, or the integer below it when there is a remainder. -/
theorem numerator_sqrt {n r : Nat} (hlo : r * r ≤ n) (hhi : n < (r + 1) * (r + 1)) :
    Numerator r (r * r != n) (Real.sqrt n) := by
  unfold Numerator
  split
  · rename_i hne
    have hlt : r * r < n := lt_of_le_of_ne hlo (bne_iff_ne.1 hne)
    refine ⟨(Real.lt_sqrt r.cast_nonneg).2 ?_, (Real.sqrt_lt' (by positivity)).2 ?_⟩
    · rw [sq]
      exact_mod_cast hlt
    · rw [sq]
      exact_mod_cast hhi
  · rename_i heq
    have heq : r * r = n := by simpa using heq
    rw [← heq, Nat.cast_mul, Real.sqrt_mul_self r.cast_nonneg]

/-! From the real root to its square. -/

section
variable {f : Fmt} {rm : Rm} {neg : Bool} {t : Int}

/-- The bounds of a format's range, away from the last unit. -/
theorem roundsPast_of_ge {x : ℝ} (h : (2 : ℝ) ^ t ≤ x) : RoundsPast f rm neg t x := by
  have hu : (0 : ℝ) < 2 ^ (t - 1 - (fracBits f : Int)) := by positivity
  unfold RoundsPast
  dsimp only
  split
  · linarith
  · split
    · linarith
    · exact h

theorem not_roundsPast_of_lt {x : ℝ} (h : x < (2 : ℝ) ^ (t - 1)) : ¬RoundsPast f rm neg t x := by
  have hhalf : (2 : ℝ) ^ t = 2 ^ (t - 1) + 2 ^ (t - 1) := by
    rw [← mul_two, zpow_sub_one₀ two_ne_zero, inv_mul_cancel_right₀ two_ne_zero]
  have hu : (2 : ℝ) ^ (t - 1 - (fracBits f : Int)) ≤ 2 ^ (t - 1) := zpow_le_zpow_right₀ one_le_two (by omega)
  have hu0 : (0 : ℝ) < 2 ^ (t - 1 - (fracBits f : Int)) := by positivity
  unfold RoundsPast
  dsimp only
  split
  · linarith
  · split
    · linarith
    · linarith

/-- A rounded root, by its square: the same comparisons, squared. -/
theorem rootRoundsTo_of_rounded {x : ℚ} {q : Nat} {k : Int} {inexact : Bool} {o : FpOut} (hx : 0 ≤ x)
    (h : Rounded f rm false (Real.sqrt x) q k inexact) (hval : fpVal f o.bits = .fin false q k)
    (hcauses : o.causes = 0 ↔ inexact = false) : RootRoundsTo f rm x o := by
  have hsq : Real.sqrt x * Real.sqrt x = x := Real.mul_self_sqrt (by exact_mod_cast hx)
  have hroot : 0 ≤ Real.sqrt x := Real.sqrt_nonneg _
  have hu : (0 : ℚ) < 2 ^ k := by positivity
  have hq : (1 : ℚ) ≤ q := by exact_mod_cast (Nat.one_le_two_pow).trans h.lo
  have hr : (2 : ℚ) ^ k ≤ q * 2 ^ k := le_mul_of_one_le_left hu.le hq
  have hunit : (2 : ℝ) ^ k = ((2 ^ k : ℚ) : ℝ) := by norm_num
  have hsig : (q : ℝ) * 2 ^ k = ((q * 2 ^ k : ℚ) : ℝ) := by norm_num
  have hnear := h.near
  unfold RoundedTo at hnear
  dsimp only at hnear
  rw [hsig, hunit] at hnear
  refine ⟨q, k, hval, ?_⟩
  dsimp only
  rw [hcauses]
  generalize (q : ℚ) * 2 ^ k = r at *
  generalize (2 : ℚ) ^ k = u at *
  have hu' : (0 : ℝ) < u := by exact_mod_cast hu
  have hr' : (u : ℝ) ≤ r := by exact_mod_cast hr
  obtain ⟨hexact, hnearest, hbelow, habove⟩ := hnear
  refine ⟨?_, fun hm => ?_, fun hm => ?_, fun hm => ?_⟩
  · have hiff : (r * r : ℝ) = x ↔ inexact = false := by
      rw [← hsq, hexact]
      exact mul_self_inj (hu'.le.trans hr') hroot
    rw [← hiff]
    norm_cast
  · obtain ⟨hlo, hhi⟩ := abs_le.1 (le_div_iff₀' two_pos |>.2 (hnearest hm).1)
    have hsmall := mul_self_le_mul_self (a := (2 * r - u : ℝ)) (b := 2 * Real.sqrt x) (by linarith) (by linarith)
    have hlarge := mul_self_le_mul_self (a := 2 * Real.sqrt x) (b := (2 * r + u : ℝ)) (by linarith) (by linarith)
    have hfour : 2 * Real.sqrt x * (2 * Real.sqrt x) = 4 * x := by linear_combination 4 * hsq
    rw [hfour] at hsmall hlarge
    exact ⟨by exact_mod_cast hsmall, by exact_mod_cast hlarge⟩
  · obtain ⟨hle, hlt⟩ := hbelow (hm.imp_right fun h => .inr ⟨h, rfl⟩)
    have hsmall := mul_self_le_mul_self (hu'.le.trans hr') hle
    have hlarge := mul_self_lt_mul_self hroot hlt
    rw [hsq] at hsmall hlarge
    exact ⟨by exact_mod_cast hsmall, by exact_mod_cast hlarge⟩
  · obtain ⟨hle, hlt⟩ := habove (.inl ⟨hm, rfl⟩)
    have hlarge := mul_self_le_mul_self hroot hle
    have hsmall := mul_self_lt_mul_self (a := (r - u : ℝ)) (b := Real.sqrt x) (by linarith) (by linarith)
    rw [hsq] at hsmall hlarge
    exact ⟨by exact_mod_cast hlarge, by exact_mod_cast hsmall⟩

end

/-! The root of a positive value. -/

section
variable {f : Fmt} {c : FpCtl} {m : Nat} {e : Int}

/-- The root of an integer `n` of even exponent, in range and rounded once. -/
theorem root_roundPack {n r : Nat} {x : ℚ} (hx : (x : ℝ) = n * 2 ^ (2 * e)) (hlo : r * r ≤ n)
    (hhi : n < (r + 1) * (r + 1)) (hlong : 2 ^ (fracBits f + 1) ≤ r)
    (hmin : (2 : ℚ) ^ (1 - (expBias f : Int)) ≤ x) (hmax : x < 2 ^ ((expBias f : Int) + 1)) :
    OnlyInexact (roundPack f c false r e (r * r != n))
      ∧ RootRoundsTo f c.rm x (roundPack f c false r e (r * r != n)) := by
  have hbias := expBias_pos f
  have hx0 : 0 < x := (by positivity : (0 : ℚ) < 2 ^ (1 - (expBias f : Int))).trans_le hmin
  have hr0 : r ≠ 0 := ((Nat.two_pow_pos _).trans_le hlong).ne'
  have hroot : Real.sqrt n * 2 ^ e = Real.sqrt x := by
    have hpow : (2 : ℝ) ^ (2 * e) = 2 ^ e * 2 ^ e := by rw [two_mul, zpow_add₀ two_ne_zero]
    rw [hx, hpow, Real.sqrt_mul n.cast_nonneg, Real.sqrt_mul_self (by positivity)]
  obtain ⟨q, k, inexact, hround, hpack⟩ := roundPack_rounded f c false e hr0 (numerator_sqrt hlo hhi)
    fun _ => (Nat.le_log2 hr0).2 hlong
  rw [hroot] at hround
  have hklo : 1 - (expBias f : Int) ≤ k + fracBits f := by
    rw [hround.reaches]
    refine roundsPast_of_ge (Real.le_sqrt_of_sq_le ?_)
    have hone : (2 : ℝ) ^ (1 - (expBias f : Int)) ≤ 1 := zpow_le_one_of_nonpos₀ one_le_two (by omega)
    have hmin' : (2 : ℝ) ^ (1 - (expBias f : Int)) ≤ x := by simpa using Rat.cast_le (K := ℝ) |>.2 hmin
    refine le_trans ?_ hmin'
    rw [sq]
    exact mul_le_of_le_one_left (by positivity) hone
  have hkhi : k + fracBits f < (expBias f : Int) + 1 := by
    rw [← not_le, hround.reaches]
    refine not_roundsPast_of_lt ((Real.sqrt_lt' (by positivity)).2 ?_)
    have hmax' : (x : ℝ) < 2 ^ ((expBias f : Int) + 1) := by simpa using Rat.cast_lt (K := ℝ) |>.2 hmax
    refine hmax'.trans_le ?_
    rw [← zpow_natCast, ← zpow_mul]
    exact zpow_le_zpow_right₀ one_le_two (by push_cast; omega)
  obtain ⟨hcauses, hval⟩ := packAt_normal (c := c) (neg := false) (inexact := inexact) hklo hkhi hround.lo hround.hi
  rw [hpack]
  refine ⟨?_, rootRoundsTo_of_rounded hx0.le hround hval ?_⟩
  · cases inexact
    · exact .inl hcauses
    · exact .inr hcauses
  · rw [hcauses]
    cases inexact <;> decide

/-- The integer whose root is taken, made even in its exponent. -/
theorem sqrtVal_pos (hm : m ≠ 0) : ∃ (n : Nat) (j : Nat) (e1 : Int), (j = 2 * fracBits f ∨ j = 2 * fracBits f + 1)
    ∧ n = m * 2 ^ j ∧ 2 * e1 = e - j ∧ sqrtVal f c (.fin false m e) =
      roundPack f c false (isqrtFrom n (2 * fracBits f) 0) e1
        (isqrtFrom n (2 * fracBits f) 0 * isqrtFrom n (2 * fracBits f) 0 != n) := by
  unfold sqrtVal
  dsimp only
  rw [if_neg hm, if_neg Bool.false_ne_true]
  by_cases he : e % 2 = 0
  · rw [if_pos he, if_pos he]
    exact ⟨_, _, _, .inl rfl, rfl, by omega, rfl⟩
  · rw [if_neg he, if_neg he]
    exact ⟨_, _, _, .inr rfl, rfl, by omega, rfl⟩

theorem two_le_fracBits (f : Fmt) : 2 ≤ fracBits f := by cases f <;> decide

/-- The root of a positive normal number. -/
theorem root_sqrtVal (hlo : 2 ^ fracBits f ≤ m) (hhi : m < 2 ^ (fracBits f + 1))
    (helo : 1 - (expBias f : Int) - fracBits f ≤ e) (hehi : e ≤ (expBias f : Int) - fracBits f) :
    OnlyInexact (sqrtVal f c (.fin false m e))
      ∧ RootRoundsTo f c.rm (FpVal.fin false m e).rat (sqrtVal f c (.fin false m e)) := by
  have hfrac := two_le_fracBits f
  have hm : m ≠ 0 := ((Nat.two_pow_pos _).trans_le hlo).ne'
  have hrat : (FpVal.fin false m e).rat = m * 2 ^ e := by rw [rat_fin, signFactor, if_neg Bool.false_ne_true, one_mul]
  have hlo' : (2 : ℚ) ^ (fracBits f : Int) ≤ m := by rw [zpow_natCast]; exact_mod_cast hlo
  have hhi' : (m : ℚ) < 2 ^ ((fracBits f : Int) + 1) := by exact_mod_cast hhi
  obtain ⟨n, j, e1, hj, rfl, he1, hsqrt⟩ := sqrtVal_pos (f := f) (c := c) (e := e) hm
  have hsmall : m * 2 ^ j < 2 ^ (2 * fracBits f) * 2 ^ (2 * fracBits f) := by
    calc m * 2 ^ j < 2 ^ (fracBits f + 1) * 2 ^ j := Nat.mul_lt_mul_of_pos_right hhi (Nat.two_pow_pos _)
      _ ≤ 2 ^ (2 * fracBits f) * 2 ^ (2 * fracBits f) := by
        rw [← Nat.pow_add, ← Nat.pow_add]
        exact Nat.pow_le_pow_right Nat.two_pos (by omega)
  obtain ⟨hrlo, hrhi⟩ := isqrtFrom_bounds (m * 2 ^ j) (2 * fracBits f) 0 (Nat.zero_le _) (by simpa using hsmall)
  rw [hrat, hsqrt]
  refine root_roundPack ?_ hrlo hrhi ?_ ?_ ?_
  · have hpow : (2 : ℝ) ^ e = 2 ^ j * 2 ^ (2 * e1) := by
      rw [← zpow_natCast, ← zpow_add₀ two_ne_zero]
      congr 1
      omega
    push_cast
    rw [hpow, mul_assoc]
  · by_contra hlt
    have hle : isqrtFrom (m * 2 ^ j) (2 * fracBits f) 0 + 1 ≤ 2 ^ (fracBits f + 1) := not_le.1 hlt
    have hlarge : 2 ^ (fracBits f + 1) * 2 ^ (fracBits f + 1) ≤ m * 2 ^ j := by
      calc 2 ^ (fracBits f + 1) * 2 ^ (fracBits f + 1) ≤ 2 ^ fracBits f * 2 ^ j := by
            rw [← Nat.pow_add, ← Nat.pow_add]
            exact Nat.pow_le_pow_right Nat.two_pos (by omega)
        _ ≤ m * 2 ^ j := Nat.mul_le_mul_right _ hlo
    exact absurd (Nat.mul_le_mul hle hle) (not_le.2 (hlarge.trans_lt hrhi))
  · calc (2 : ℚ) ^ (1 - (expBias f : Int)) ≤ 2 ^ ((fracBits f : Int) + e) := zpow_le_zpow_right₀ one_le_two (by omega)
      _ = 2 ^ (fracBits f : Int) * 2 ^ e := zpow_add₀ two_ne_zero _ _
      _ ≤ m * 2 ^ e := mul_le_mul_of_nonneg_right hlo' (by positivity)
  · calc (m : ℚ) * 2 ^ e < 2 ^ ((fracBits f : Int) + 1) * 2 ^ e := mul_lt_mul_of_pos_right hhi' (by positivity)
      _ = 2 ^ ((fracBits f : Int) + 1 + e) := (zpow_add₀ two_ne_zero _ _).symm
      _ ≤ 2 ^ ((expBias f : Int) + 1) := zpow_le_zpow_right₀ one_le_two (by omega)

/-- A positive operand that is taken: its root, in range and rounded once. -/
theorem root_fpSqrt {a : Nat} (ha : (fpVal f a).finite) (hpos : 0 < (fpVal f a).rat)
    (ho : Taken f [a] (fpSqrt f c a)) :
    OnlyInexact (fpSqrt f c a) ∧ RootRoundsTo f c.rm (fpVal f a).rat (fpSqrt f c a) := by
  rw [fpSqrt_eq] at ho ⊢
  obtain ⟨hbody, hsub⟩ := operandCauses_getD (by simpa using ha) ho
  obtain ⟨m, e, hv⟩ := exists_fin ha
  obtain ⟨hhi, hm⟩ := fin_bounds hv (hsub a (by simp))
  have hneg : fpNeg f a = false := by
    by_contra hne
    rw [Bool.not_eq_false] at hne
    rw [hv, rat_fin, hne] at hpos
    have : (0 : ℚ) ≤ m * 2 ^ e := by positivity
    simp [signFactor] at hpos
    linarith
  rw [hbody]
  rw [hv, hneg] at hpos ⊢
  obtain ⟨hlo, helo, hehi⟩ := hm fun h => hpos.ne' (rat_fin_eq_zero_iff.2 h)
  exact root_sqrtVal hlo hhi helo hehi

end

end Sys2Proof.Machine
end

section
/-! O57: the roundings of the obligation, from the one rounding of each operation. -/

namespace Sys2Proof.Machine

/-- The rounding of `m * 2^e` itself. -/
theorem roundPack_roundsTo {f : Fmt} {c : FpCtl} {neg : Bool} {m : Nat} {e : Int} (hm : m ≠ 0)
    (ho : OnlyInexact (roundPack f c neg m e false)) :
    RoundsTo f c.rm neg ((m : ℚ) * (2 : ℚ) ^ e) (roundPack f c neg m e false) := by
  obtain ⟨q, k, inexact, hrounded, hpack⟩ :=
    roundPack_rounded (z := (m : ℚ)) f c neg e (sticky := false) hm rfl nofun
  rw [hpack] at ho ⊢
  exact hrounded.roundsTo ho

/-- Settles O57: every operation on finite operands rounds its exact value once, or finds it out of range. -/
theorem roundingByMode : Obligations.RoundingByMode := by
  refine ⟨fun f c neg m e hm ho => roundPack_roundsTo hm ho, fun f c a b d ha hb hd => ?_,
    fun f g c a ha h0 ho => (computes_fpToFp ha (.inl ho)).rounds h0 ho, fun f c i h0 ho => ?_,
    fun f c a b d ha hb hd hsa hsb => ?_, fun f g c a ha hsa h0 => (computes_fpToFp ha (.inr hsa)).range h0,
    fun f c i h0 => ?_⟩
  · exact ⟨fun h0 ho => (computes_fpAdd ha hb (.inl ho)).rounds h0 ho,
      fun h0 ho => (computes_fpSub ha hb (.inl ho)).rounds h0 ho,
      fun h0 ho => (computes_fpMul ha hb (.inl ho)).rounds h0 ho,
      fun hy h0 ho => (computes_fpDiv ha hb hy (.inl ho)).rounds h0 ho,
      fun hpos ho => (root_fpSqrt ha hpos (.inl ho)).2,
      fun h0 ho => (computes_fpMadd ha hb hd (.inl ho)).rounds h0 ho,
      fun h0 ho => (computes_fpMsub ha hb hd (.inl ho)).rounds h0 ho⟩
  · simpa using (computes_intToFp f c i).rounds (Int.cast_ne_zero.2 h0) ho
  · have htwo : ∀ v ∈ [a, b], fpSubnormal f v = false := forall_mem_two hsa hsb
    exact ⟨fun h0 => (computes_fpAdd ha hb (.inr htwo)).range h0,
      fun h0 => (computes_fpSub ha hb (.inr htwo)).range h0,
      fun h0 => (computes_fpMul ha hb (.inr htwo)).range h0,
      fun hy h0 => (computes_fpDiv ha hb hy (.inr htwo)).range h0,
      fun hpos => (root_fpSqrt ha hpos (.inr (List.forall_mem_singleton.2 hsa))).1,
      fun hsd => ⟨fun h0 => (computes_fpMadd ha hb hd (.inr (forall_mem_three hsa hsb hsd))).range h0,
        fun h0 => (computes_fpMsub ha hb hd (.inr (forall_mem_three hsa hsb hsd))).range h0⟩⟩
  · simpa using (computes_intToFp f c i).range (Int.cast_ne_zero.2 h0)

end Sys2Proof.Machine
end

section
/-! O56: exact results, and the default results of special operands (47_fpu.md R704 to R706, R716). -/

namespace Sys2Proof.Machine

/-- A result without a cause that stands for `v`. -/
def Gives (f : Fmt) (o : FpOut) (v : FpVal) : Prop := o.causes = 0 ∧ fpVal f o.bits = v

/-- An invalid operation, with the default NaN. -/
def Invalid (f : Fmt) (o : FpOut) : Prop := o.causes = causeV ∧ o.bits = defaultNan f

/-- The zero of a format. -/
def zeroVal (f : Fmt) (n : Bool) : FpVal := .fin n 0 (1 - (expBias f : Int) - fracBits f)

section
variable {f : Fmt} {c : FpCtl}

theorem gives_inf (n : Bool) : Gives f (fpExact (infBits f n)) (.inf n) := ⟨rfl, fpVal_infBits f n⟩

theorem gives_zero (n : Bool) : Gives f (fpExact (zeroBits f n)) (zeroVal f n) := ⟨rfl, fpVal_zeroBits f n⟩

theorem invalid_fpInvalid : Invalid f (fpInvalid f) := ⟨rfl, rfl⟩

/-! Special values. -/

section
variable {x y : FpVal} {m n : Bool}

theorem addVals_inf_finite (hy : y.finite) : Gives f (addVals f c (.inf m) y) (.inf m) := by
  cases y with
  | fin => exact gives_inf m
  | inf | qnan | snan => exact hy.elim

theorem addVals_finite_inf (hx : x.finite) : Gives f (addVals f c x (.inf n)) (.inf n) := by
  cases x with
  | fin => exact gives_inf n
  | inf | qnan | snan => exact hx.elim

theorem addVals_inf_inf : if m = n then Gives f (addVals f c (.inf m) (.inf n)) (.inf m)
    else Invalid f (addVals f c (.inf m) (.inf n)) := by
  split
  · rename_i h
    have hadd : addVals f c (.inf m) (.inf n) = fpExact (infBits f m) := if_pos (beq_iff_eq.2 h)
    rw [hadd]
    exact gives_inf m
  · rename_i h
    have hadd : addVals f c (.inf m) (.inf n) = fpInvalid f := if_neg (h ∘ beq_iff_eq.1)
    rw [hadd]
    exact invalid_fpInvalid

variable {m1 m2 : Nat} {e1 e2 : Int}

/-- A zero sum has the common sign, else + but - when rounding down. -/
theorem addVals_zero (h : (FpVal.fin m m1 e1).rat + (FpVal.fin n m2 e2).rat = 0) :
    Gives f (addVals f c (.fin m m1 e1) (.fin n m2 e2)) (zeroVal f (if m = n then m else c.rm == .down)) := by
  obtain ⟨t, hsum, hadd⟩ := addVals_fin (f := f) (c := c) m m1 e1 n m2 e2
  have ht : t = 0 := by
    have hpow : (2 : ℚ) ^ min e1 e2 ≠ 0 := by positivity
    rw [hsum] at h
    exact_mod_cast (mul_eq_zero.1 h).resolve_right hpow
  have hsign : (if m = n then m else c.rm == .down) = zeroSumSign c.rm m n := by simp [zeroSumSign]
  rw [hadd, if_pos ht, hsign]
  exact gives_zero _

theorem mulExact_inf_fin : mulExact (.inf m) (.fin n m2 e2) = if m2 = 0 then none else some (.inf (m != n)) := rfl

theorem mulExact_fin_inf : mulExact (.fin m m1 e1) (.inf n) = if m1 = 0 then none else some (.inf (m != n)) := rfl

theorem mulVals_of_inf {k : Bool} (h : mulExact x y = some (.inf k)) : Gives f (mulVals f c x y) (.inf k) := by
  rw [mulVals, h]
  exact gives_inf k

theorem mulVals_of_none (h : mulExact x y = none) : Invalid f (mulVals f c x y) := by
  rw [mulVals, h]
  exact invalid_fpInvalid

/-- A zero product has the XOR of the signs. -/
theorem mulVals_zero (h : (FpVal.fin m m1 e1).rat * (FpVal.fin n m2 e2).rat = 0) :
    Gives f (mulVals f c (.fin m m1 e1) (.fin n m2 e2)) (zeroVal f (m != n)) := by
  have hm : m1 * m2 = 0 := by
    rwa [← rat_mul_fin, rat_fin_eq_zero_iff] at h
  have hmul : mulVals f c (.fin m m1 e1) (.fin n m2 e2) = fpExact (zeroBits f (m != n)) := if_pos hm
  rw [hmul]
  exact gives_zero _

/-- A zero dividend. -/
theorem divVals_zero (h : m1 = 0) :
    if (FpVal.fin n m2 e2).rat = 0 then Invalid f (divVals f c (.fin m m1 e1) (.fin n m2 e2))
    else Gives f (divVals f c (.fin m m1 e1) (.fin n m2 e2)) (zeroVal f (m != n)) := by
  unfold divVals
  dsimp only
  simp only [rat_fin_eq_zero_iff, h, if_true]
  split
  · exact invalid_fpInvalid
  · exact gives_zero _

/-- A zero divisor of another number. -/
theorem divVals_by_zero (h1 : m1 ≠ 0) (h2 : m2 = 0) : divVals f c (.fin m m1 e1) (.fin n m2 e2) =
    { causes := causeZ, bits := infBits f (m != n) } := (if_pos h2).trans (if_neg h1)

end

/-! Operands that are taken. -/

section
variable {a b d : Nat}

theorem operandCauses_getD_two (hua : ¬Unusable f a) (hub : ¬Unusable f b) (ha : fpSignaling f a = false)
    (hb : fpSignaling f b = false) (body : FpOut) : (operandCauses f [a, b]).getD body = body := by
  rw [operandCauses_none (forall_mem_two hua hub) (forall_mem_two ha hb)]
  rfl

theorem operandCauses_getD_three (hua : ¬Unusable f a) (hub : ¬Unusable f b) (hud : ¬Unusable f d)
    (ha : fpSignaling f a = false) (hb : fpSignaling f b = false) (hd : fpSignaling f d = false) (body : FpOut) :
    (operandCauses f [a, b, d]).getD body = body := by
  rw [operandCauses_none (forall_mem_three hua hub hud) (forall_mem_three ha hb hd)]
  rfl

/-! What the operand conditions say of every operation. -/

section
variable {p : FpOut → Prop}

theorem forall_one (h : ∀ body, p ((operandCauses f [a]).getD body)) :
    ∀ o ∈ [fpSqrt f c a, fpAbs f a, fpNegate f a], p o := by
  simp [fpSqrt_eq, fpAbs_eq, fpNegate_eq, h]

theorem forall_two (h : ∀ body, p ((operandCauses f [a, b]).getD body)) :
    ∀ o ∈ [fpAdd f c a b, fpSub f c a b, fpMul f c a b, fpDiv f c a b], p o := by
  simp [fpAdd_eq, fpSub_eq, fpMul_eq, fpDiv_eq, h]

theorem forall_three (h : ∀ body, p ((operandCauses f [a, b, d]).getD body)) :
    ∀ o ∈ [fpMadd f c false a b d, fpMadd f c true a b d], p o := by
  simp [fpMadd_eq, h]

theorem causes_of_unusable {ops : List Nat} {v : Nat} (hv : v ∈ ops) (h : Unusable f v) (body : FpOut) :
    ((operandCauses f ops).getD body).causes = causeE := by
  rw [operandCauses_unusable hv h]
  rfl

theorem invalid_of_signaling {ops : List Nat} {v : Nat} (h : ∀ v ∈ ops, ¬Unusable f v) (hv : v ∈ ops)
    (hs : fpSignaling f v = true) (body : FpOut) : Invalid f ((operandCauses f ops).getD body) := by
  rw [operandCauses_signaling h hv hs]
  exact invalid_fpInvalid

end

/-! Sums: ADD and SUB, by the second value. -/

section
variable {o : FpOut} {y : FpVal} {p : Bool}

/-- The infinities of a sum of two operands, the second as it is or with its sign inverted. -/
theorem sum_infinities (ho : fpSignaling f a = false → fpSignaling f b = false → o = addVals f c (fpVal f a) y)
    (hfin : (fpVal f b).finite → y.finite) (hinf : fpVal f b = .inf (fpNeg f b) → y = .inf p) :
    (fpVal f a = .inf (fpNeg f a) → (fpVal f b).finite → Gives f o (.inf (fpNeg f a)))
      ∧ ((fpVal f a).finite → fpVal f b = .inf (fpNeg f b) → Gives f o (.inf p))
      ∧ (fpVal f a = .inf (fpNeg f a) → fpVal f b = .inf (fpNeg f b) →
        if fpNeg f a = p then Gives f o (.inf (fpNeg f a)) else Invalid f o) := by
  refine ⟨fun hx hy => ?_, fun hx hy => ?_, fun hx hy => ?_⟩
  · rw [ho (not_signaling_of_inf hx) (not_signaling_of_finite hy), hx]
    exact addVals_inf_finite (hfin hy)
  · rw [ho (not_signaling_of_finite hx) (not_signaling_of_inf hy), hinf hy]
    exact addVals_finite_inf hx
  · rw [ho (not_signaling_of_inf hx) (not_signaling_of_inf hy), hx, hinf hy]
    exact addVals_inf_inf

theorem fpAdd_value (hua : ¬Unusable f a) (hub : ¬Unusable f b) (ha : fpSignaling f a = false)
    (hb : fpSignaling f b = false) : fpAdd f c a b = addVals f c (fpVal f a) (fpVal f b) :=
  (fpAdd_eq f c a b).trans (operandCauses_getD_two hua hub ha hb _)

theorem fpSub_value (hua : ¬Unusable f a) (hub : ¬Unusable f b) (ha : fpSignaling f a = false)
    (hb : fpSignaling f b = false) : fpSub f c a b = addVals f c (fpVal f a) (negVal (fpVal f b)) :=
  (fpSub_eq f c a b).trans (operandCauses_getD_two hua hub ha hb _)

theorem fpMul_value (hua : ¬Unusable f a) (hub : ¬Unusable f b) (ha : fpSignaling f a = false)
    (hb : fpSignaling f b = false) : fpMul f c a b = mulVals f c (fpVal f a) (fpVal f b) :=
  (fpMul_eq f c a b).trans (operandCauses_getD_two hua hub ha hb _)

theorem fpDiv_value (hua : ¬Unusable f a) (hub : ¬Unusable f b) (ha : fpSignaling f a = false)
    (hb : fpSignaling f b = false) : fpDiv f c a b = divVals f c (fpVal f a) (fpVal f b) :=
  (fpDiv_eq f c a b).trans (operandCauses_getD_two hua hub ha hb _)

theorem fpSqrt_value (hua : ¬Unusable f a) (ha : fpSignaling f a = false) :
    fpSqrt f c a = sqrtVal f c (fpVal f a) := by
  rw [fpSqrt_eq, operandCauses_none (List.forall_mem_singleton.2 hua) (List.forall_mem_singleton.2 ha)]
  rfl

end

/-! Finite operands. -/

/-- The zeros of a finite operand's value. -/
theorem exists_zero (ha : (fpVal f a).finite) (h0 : (fpVal f a).rat = 0) : ∃ e, fpVal f a = .fin (fpNeg f a) 0 e := by
  obtain ⟨m, e, hv⟩ := exists_fin ha
  rw [hv, rat_fin_eq_zero_iff] at h0
  exact ⟨e, h0 ▸ hv⟩

/-- The negative values have the sign and are no zeros. -/
theorem exists_neg (ha : (fpVal f a).finite) (h : (fpVal f a).rat < 0) :
    ∃ m e, fpVal f a = .fin true m e ∧ m ≠ 0 := by
  obtain ⟨m, e, hv⟩ := exists_fin ha
  refine ⟨m, e, ?_, fun h0 => h.ne (hv ▸ rat_fin_eq_zero_iff.2 h0)⟩
  cases hn : fpNeg f a with
  | true => rw [hv, hn]
  | false =>
    have hpos : (0 : ℚ) ≤ m * 2 ^ e := by positivity
    rw [hv, hn, rat_fin, signFactor, if_neg Bool.false_ne_true, one_mul] at h
    exact absurd h (not_lt.2 hpos)

theorem sqrtVal_zero {n : Bool} {e : Int} : sqrtVal f c (.fin n 0 e) = fpExact (zeroBits f n) := rfl

theorem sqrtVal_neg {m : Nat} {e : Int} (hm : m ≠ 0) : sqrtVal f c (.fin true m e) = fpInvalid f :=
  (if_neg hm).trans (if_pos rfl)

/-- A root without a cause, squared, is the operand. -/
theorem fpSqrt_exact (ha : (fpVal f a).finite) (ho : (fpSqrt f c a).causes = 0) :
    (fpVal f (fpSqrt f c a).bits).finite
      ∧ (fpVal f (fpSqrt f c a).bits).rat * (fpVal f (fpSqrt f c a).bits).rat = (fpVal f a).rat := by
  have htaken : Taken f [a] (fpSqrt f c a) := .inl (.inl ho)
  have hbody : fpSqrt f c a = sqrtVal f c (fpVal f a) := by
    rw [fpSqrt_eq] at htaken ⊢
    exact (operandCauses_getD (List.forall_mem_singleton.2 ha) htaken).1
  rcases lt_trichotomy (fpVal f a).rat 0 with hneg | hzero | hpos
  · obtain ⟨m, e, hv, hm⟩ := exists_neg ha hneg
    rw [hbody, hv, sqrtVal_neg hm] at ho
    exact absurd ho (by decide : causeV ≠ 0)
  · obtain ⟨e, hv⟩ := exists_zero ha hzero
    rw [hzero, hbody, hv, sqrtVal_zero, fpExact, fpVal_zeroBits, rat_fin_eq_zero_iff.2 rfl]
    exact ⟨trivial, mul_zero 0⟩
  · obtain ⟨q, k, hval, hexact, -⟩ := (root_fpSqrt ha hpos htaken).2
    rw [hval, rat_fin, signFactor, if_neg Bool.false_ne_true, one_mul]
    exact ⟨trivial, hexact.1 ho⟩

/-- A quotient without a cause is the exact one, and its divisor not 0. -/
theorem fpDiv_exact (ha : (fpVal f a).finite) (hb : (fpVal f b).finite) (ho : (fpDiv f c a b).causes = 0) :
    (fpVal f b).rat ≠ 0 ∧ (fpVal f (fpDiv f c a b).bits).finite
      ∧ (fpVal f (fpDiv f c a b).bits).rat = (fpVal f a).rat / (fpVal f b).rat := by
  have htaken : Taken f [a, b] (fpDiv f c a b) := .inl (.inl ho)
  have hy : (fpVal f b).rat ≠ 0 := by
    intro h0
    rw [fpDiv_eq] at ho htaken
    rw [(operandCauses_getD (forall_mem_two ha hb) htaken).1] at ho
    obtain ⟨m1, e1, hv1⟩ := exists_fin ha
    obtain ⟨e2, hv2⟩ := exists_zero hb h0
    rw [hv1, hv2] at ho
    by_cases hm1 : m1 = 0
    · have hdiv := divVals_zero (f := f) (c := c) (m := fpNeg f a) (e1 := e1) (n := fpNeg f b) (m2 := 0)
        (e2 := e2) hm1
      rw [if_pos (rat_fin_eq_zero_iff.2 rfl)] at hdiv
      exact absurd (hdiv.1.symm.trans ho) (by decide)
    · rw [divVals_by_zero hm1 rfl] at ho
      exact absurd ho (by decide : causeZ ≠ 0)
  exact ⟨hy, (computes_fpDiv ha hb hy htaken).exact ho⟩

/-! Products and quotients with an infinity. -/

section
variable (hua : ¬Unusable f a) (hub : ¬Unusable f b)
include hua hub

theorem fpMul_inf_inf (hx : fpVal f a = .inf (fpNeg f a)) (hy : fpVal f b = .inf (fpNeg f b)) :
    Gives f (fpMul f c a b) (.inf (fpNeg f a != fpNeg f b)) ∧ Invalid f (fpDiv f c a b) := by
  have ha := not_signaling_of_inf hx
  have hb := not_signaling_of_inf hy
  rw [fpMul_value hua hub ha hb, fpDiv_value hua hub ha hb, hx, hy]
  exact ⟨mulVals_of_inf rfl, invalid_fpInvalid⟩

theorem fpMul_inf_finite (hx : fpVal f a = .inf (fpNeg f a)) (hy : (fpVal f b).finite) :
    (if (fpVal f b).rat = 0 then Invalid f (fpMul f c a b)
      else Gives f (fpMul f c a b) (.inf (fpNeg f a != fpNeg f b)))
    ∧ Gives f (fpDiv f c a b) (.inf (fpNeg f a != fpNeg f b)) := by
  have ha := not_signaling_of_inf hx
  have hb := not_signaling_of_finite hy
  obtain ⟨m, e, hv⟩ := exists_fin hy
  rw [fpMul_value hua hub ha hb, fpDiv_value hua hub ha hb, hx, hv]
  refine ⟨?_, gives_inf _⟩
  split
  · rename_i h0
    exact mulVals_of_none (if_pos (rat_fin_eq_zero_iff.1 h0))
  · rename_i h0
    exact mulVals_of_inf (if_neg (h0 ∘ rat_fin_eq_zero_iff.2))

theorem fpMul_finite_inf (hx : (fpVal f a).finite) (hy : fpVal f b = .inf (fpNeg f b)) :
    (if (fpVal f a).rat = 0 then Invalid f (fpMul f c a b)
      else Gives f (fpMul f c a b) (.inf (fpNeg f a != fpNeg f b)))
    ∧ Gives f (fpDiv f c a b) (zeroVal f (fpNeg f a != fpNeg f b)) := by
  have ha := not_signaling_of_finite hx
  have hb := not_signaling_of_inf hy
  obtain ⟨m, e, hv⟩ := exists_fin hx
  rw [fpMul_value hua hub ha hb, fpDiv_value hua hub ha hb, hv, hy]
  refine ⟨?_, gives_zero _⟩
  split
  · rename_i h0
    exact mulVals_of_none (if_pos (rat_fin_eq_zero_iff.1 h0))
  · rename_i h0
    exact mulVals_of_inf (if_neg (h0 ∘ rat_fin_eq_zero_iff.2))

/-! Zeros of finite operands. -/

variable (hx : (fpVal f a).finite) (hy : (fpVal f b).finite)
include hx hy

theorem fpAdd_zero (h0 : (fpVal f a).rat + (fpVal f b).rat = 0) : Gives f (fpAdd f c a b)
    (zeroVal f (if fpNeg f a = fpNeg f b then fpNeg f a else c.rm == .down)) := by
  rw [fpAdd_value hua hub (not_signaling_of_finite hx) (not_signaling_of_finite hy)]
  obtain ⟨m1, e1, hv1⟩ := exists_fin hx
  obtain ⟨m2, e2, hv2⟩ := exists_fin hy
  rw [hv1, hv2] at h0 ⊢
  exact addVals_zero h0

theorem fpSub_zero (h0 : (fpVal f a).rat - (fpVal f b).rat = 0) : Gives f (fpSub f c a b)
    (zeroVal f (if fpNeg f a = !fpNeg f b then fpNeg f a else c.rm == .down)) := by
  rw [fpSub_value hua hub (not_signaling_of_finite hx) (not_signaling_of_finite hy)]
  rw [sub_eq_add_neg, ← rat_negVal] at h0
  obtain ⟨m1, e1, hv1⟩ := exists_fin hx
  obtain ⟨m2, e2, hv2⟩ := exists_fin hy
  rw [hv1, hv2] at h0 ⊢
  exact addVals_zero h0

theorem fpMul_zero (h0 : (fpVal f a).rat * (fpVal f b).rat = 0) :
    Gives f (fpMul f c a b) (zeroVal f (fpNeg f a != fpNeg f b)) := by
  rw [fpMul_value hua hub (not_signaling_of_finite hx) (not_signaling_of_finite hy)]
  obtain ⟨m1, e1, hv1⟩ := exists_fin hx
  obtain ⟨m2, e2, hv2⟩ := exists_fin hy
  rw [hv1, hv2] at h0 ⊢
  exact mulVals_zero h0

theorem fpDiv_zero (h0 : (fpVal f a).rat = 0) : if (fpVal f b).rat = 0 then Invalid f (fpDiv f c a b)
    else Gives f (fpDiv f c a b) (zeroVal f (fpNeg f a != fpNeg f b)) := by
  rw [fpDiv_value hua hub (not_signaling_of_finite hx) (not_signaling_of_finite hy)]
  obtain ⟨e1, hv1⟩ := exists_zero hx h0
  obtain ⟨m2, e2, hv2⟩ := exists_fin hy
  rw [hv1, hv2]
  exact divVals_zero rfl

theorem fpDiv_by_zero (h1 : (fpVal f a).rat ≠ 0) (h2 : (fpVal f b).rat = 0) :
    (fpDiv f c a b).causes = causeZ ∧ fpVal f (fpDiv f c a b).bits = .inf (fpNeg f a != fpNeg f b) := by
  rw [fpDiv_value hua hub (not_signaling_of_finite hx) (not_signaling_of_finite hy)]
  obtain ⟨m1, e1, hv1⟩ := exists_fin hx
  obtain ⟨e2, hv2⟩ := exists_zero hy h2
  rw [hv1] at h1 ⊢
  rw [hv2, divVals_by_zero (h1 ∘ rat_fin_eq_zero_iff.2) rfl]
  exact ⟨rfl, fpVal_infBits f _⟩

end

/-! Multiply-adds: the product first. -/

section
variable {z : FpVal}

/-- The product is an infinity: one factor is, and the other not 0. -/
def EndlessProduct (f : Fmt) (a b : Nat) : Prop :=
  fpVal f a = .inf (fpNeg f a) ∧ (fpVal f b = .inf (fpNeg f b) ∨ (fpVal f b).finite ∧ (fpVal f b).rat ≠ 0)
    ∨ fpVal f b = .inf (fpNeg f b) ∧ (fpVal f a).finite ∧ (fpVal f a).rat ≠ 0

/-- 0 times infinity. -/
def NoProduct (f : Fmt) (a b : Nat) : Prop :=
  fpVal f a = .inf (fpNeg f a) ∧ (fpVal f b).finite ∧ (fpVal f b).rat = 0
    ∨ fpVal f b = .inf (fpNeg f b) ∧ (fpVal f a).finite ∧ (fpVal f a).rat = 0

theorem mulExact_of_endless (h : EndlessProduct f a b) :
    mulExact (fpVal f a) (fpVal f b) = some (.inf (fpNeg f a != fpNeg f b)) := by
  rcases h with ⟨hx, hy | ⟨hy, h0⟩⟩ | ⟨hy, hx, h0⟩
  · rw [hx, hy]
    rfl
  · obtain ⟨m, e, hv⟩ := exists_fin hy
    rw [hv] at h0
    rw [hx, hv, mulExact_inf_fin, if_neg (h0 ∘ rat_fin_eq_zero_iff.2)]
  · obtain ⟨m, e, hv⟩ := exists_fin hx
    rw [hv] at h0
    rw [hv, hy, mulExact_fin_inf, if_neg (h0 ∘ rat_fin_eq_zero_iff.2)]

theorem mulExact_of_noProduct (h : NoProduct f a b) : mulExact (fpVal f a) (fpVal f b) = none := by
  rcases h with ⟨hx, hy, h0⟩ | ⟨hy, hx, h0⟩
  · obtain ⟨e, hv⟩ := exists_zero hy h0
    rw [hx, hv]
    rfl
  · obtain ⟨e, hv⟩ := exists_zero hx h0
    rw [hv, hy]
    rfl

theorem not_signaling_of_endless (h : EndlessProduct f a b) : fpSignaling f a = false ∧ fpSignaling f b = false := by
  rcases h with ⟨hx, hy | ⟨hy, -⟩⟩ | ⟨hy, hx, -⟩
  · exact ⟨not_signaling_of_inf hx, not_signaling_of_inf hy⟩
  · exact ⟨not_signaling_of_inf hx, not_signaling_of_finite hy⟩
  · exact ⟨not_signaling_of_finite hx, not_signaling_of_inf hy⟩

theorem not_signaling_of_noProduct (h : NoProduct f a b) : fpSignaling f a = false ∧ fpSignaling f b = false := by
  rcases h with ⟨hx, hy, -⟩ | ⟨hy, hx, -⟩
  · exact ⟨not_signaling_of_inf hx, not_signaling_of_finite hy⟩
  · exact ⟨not_signaling_of_finite hx, not_signaling_of_inf hy⟩

theorem maddVals_of_some {x y v : FpVal} (h : mulExact x y = some v) : maddVals f c x y z = addVals f c v z := by
  rw [maddVals, h]
  rfl

theorem maddVals_of_none {x y : FpVal} (h : mulExact x y = none) : Invalid f (maddVals f c x y z) := by
  rw [maddVals, h]
  exact invalid_fpInvalid

variable {o : FpOut} {p : Bool}

/-- The infinities of a multiply-add, the addend as it is or with its sign inverted. -/
theorem madd_infinities
    (ho : fpSignaling f a = false → fpSignaling f b = false → fpSignaling f d = false →
      o = maddVals f c (fpVal f a) (fpVal f b) z)
    (hfin : (fpVal f d).finite → z.finite) (hinf : fpVal f d = .inf (fpNeg f d) → z = .inf p) :
    (EndlessProduct f a b → (fpVal f d).finite → Gives f o (.inf (fpNeg f a != fpNeg f b)))
      ∧ ((fpVal f a).finite → (fpVal f b).finite → fpVal f d = .inf (fpNeg f d) → Gives f o (.inf p))
      ∧ (EndlessProduct f a b → fpVal f d = .inf (fpNeg f d) →
        if (fpNeg f a != fpNeg f b) = p then Gives f o (.inf (fpNeg f a != fpNeg f b)) else Invalid f o) := by
  refine ⟨fun he hz => ?_, fun hx hy hz => ?_, fun he hz => ?_⟩
  · obtain ⟨ha, hb⟩ := not_signaling_of_endless he
    rw [ho ha hb (not_signaling_of_finite hz), maddVals_of_some (mulExact_of_endless he)]
    exact addVals_inf_finite (hfin hz)
  · obtain ⟨n, m, e, hmul, -⟩ := mulExact_finite hx hy
    rw [ho (not_signaling_of_finite hx) (not_signaling_of_finite hy) (not_signaling_of_inf hz), hinf hz,
      maddVals_of_some hmul]
    exact addVals_finite_inf trivial
  · obtain ⟨ha, hb⟩ := not_signaling_of_endless he
    rw [ho ha hb (not_signaling_of_inf hz), hinf hz, maddVals_of_some (mulExact_of_endless he)]
    exact addVals_inf_inf

theorem maddVals_zero {m n w : Bool} {m1 m2 m3 : Nat} {e1 e2 e3 : Int}
    (h : (FpVal.fin m m1 e1).rat * (FpVal.fin n m2 e2).rat + (FpVal.fin w m3 e3).rat = 0) :
    Gives f (maddVals f c (.fin m m1 e1) (.fin n m2 e2) (.fin w m3 e3))
      (zeroVal f (if (m != n) = w then m != n else c.rm == .down)) := by
  rw [← rat_mul_fin] at h
  rw [maddVals_of_some rfl]
  exact addVals_zero h

variable (hua : ¬Unusable f a) (hub : ¬Unusable f b) (hud : ¬Unusable f d)
include hua hub hud

theorem fpMadd_value (sub : Bool) (ha : fpSignaling f a = false) (hb : fpSignaling f b = false)
    (hd : fpSignaling f d = false) : fpMadd f c sub a b d =
      maddVals f c (fpVal f a) (fpVal f b) (if sub then negVal (fpVal f d) else fpVal f d) :=
  (fpMadd_eq f c sub a b d).trans (operandCauses_getD_three hua hub hud ha hb hd _)

/-- 0 times infinity, whatever is added: invalid. -/
theorem fpMadd_noProduct (h : NoProduct f a b) :
    ∀ o ∈ [fpMadd f c false a b d, fpMadd f c true a b d], Invalid f o := by
  obtain ⟨ha, hb⟩ := not_signaling_of_noProduct h
  have hinvalid (sub : Bool) : Invalid f (fpMadd f c sub a b d) := by
    cases hd : fpSignaling f d with
    | true =>
      rw [fpMadd_eq]
      exact invalid_of_signaling (forall_mem_three hua hub hud) (by simp) hd _
    | false =>
      rw [fpMadd_value hua hub hud sub ha hb hd]
      exact maddVals_of_none (mulExact_of_noProduct h)
  simp [hinvalid]

variable (hx : (fpVal f a).finite) (hy : (fpVal f b).finite) (hz : (fpVal f d).finite)
include hx hy hz

theorem fpMadd_zero (h0 : (fpVal f a).rat * (fpVal f b).rat + (fpVal f d).rat = 0) :
    Gives f (fpMadd f c false a b d) (zeroVal f
      (if (fpNeg f a != fpNeg f b) = fpNeg f d then fpNeg f a != fpNeg f b else c.rm == .down)) := by
  rw [fpMadd_value hua hub hud false (not_signaling_of_finite hx) (not_signaling_of_finite hy)
    (not_signaling_of_finite hz)]
  obtain ⟨m1, e1, hv1⟩ := exists_fin hx
  obtain ⟨m2, e2, hv2⟩ := exists_fin hy
  obtain ⟨m3, e3, hv3⟩ := exists_fin hz
  rw [hv1, hv2, hv3] at h0 ⊢
  exact maddVals_zero h0

theorem fpMsub_zero (h0 : (fpVal f a).rat * (fpVal f b).rat - (fpVal f d).rat = 0) :
    Gives f (fpMadd f c true a b d) (zeroVal f
      (if (fpNeg f a != fpNeg f b) = !fpNeg f d then fpNeg f a != fpNeg f b else c.rm == .down)) := by
  rw [fpMadd_value hua hub hud true (not_signaling_of_finite hx) (not_signaling_of_finite hy)
    (not_signaling_of_finite hz)]
  rw [sub_eq_add_neg, ← rat_negVal] at h0
  obtain ⟨m1, e1, hv1⟩ := exists_fin hx
  obtain ⟨m2, e2, hv2⟩ := exists_fin hy
  obtain ⟨m3, e3, hv3⟩ := exists_fin hz
  rw [hv1, hv2, hv3] at h0 ⊢
  exact maddVals_zero h0

end

end

end

/-! The clauses of the obligation. -/

section
variable {f : Fmt} {c : FpCtl} {a b d : Nat}

theorem unusable_causes (f : Fmt) (c : FpCtl) (a b d : Nat) :
    (Unusable f a → ∀ o ∈ [fpSqrt f c a, fpAbs f a, fpNegate f a]
        ++ [fpAdd f c a b, fpSub f c a b, fpMul f c a b, fpDiv f c a b]
        ++ [fpMadd f c false a b d, fpMadd f c true a b d], o.causes = causeE)
      ∧ (Unusable f b → ∀ o ∈ [fpAdd f c a b, fpSub f c a b, fpMul f c a b, fpDiv f c a b]
        ++ [fpMadd f c false a b d, fpMadd f c true a b d], o.causes = causeE)
      ∧ (Unusable f d → ∀ o ∈ [fpMadd f c false a b d, fpMadd f c true a b d], o.causes = causeE) := by
  refine ⟨fun h => ?_, fun h => ?_, fun h => forall_three (causes_of_unusable (by simp) h)⟩
  · exact List.forall_mem_append.2 ⟨List.forall_mem_append.2 ⟨forall_one (causes_of_unusable (by simp) h),
      forall_two (causes_of_unusable (by simp) h)⟩, forall_three (causes_of_unusable (by simp) h)⟩
  · exact List.forall_mem_append.2 ⟨forall_two (causes_of_unusable (by simp) h),
      forall_three (causes_of_unusable (by simp) h)⟩

/-- The root of an infinity, of a zero, and of a number below 0. -/
theorem fpSqrt_special (hua : ¬Unusable f a) :
    (fpVal f a = .inf (fpNeg f a) → if fpNeg f a then Invalid f (fpSqrt f c a)
        else Gives f (fpSqrt f c a) (.inf false))
      ∧ ((fpVal f a).finite → (fpVal f a).rat = 0 → Gives f (fpSqrt f c a) (zeroVal f (fpNeg f a)))
      ∧ ((fpVal f a).finite → (fpVal f a).rat < 0 → Invalid f (fpSqrt f c a)) := by
  refine ⟨fun hx => ?_, fun hx h0 => ?_, fun hx hneg => ?_⟩
  · rw [fpSqrt_value hua (not_signaling_of_inf hx), hx]
    cases fpNeg f a with
    | true => exact invalid_fpInvalid
    | false => exact gives_inf false
  · obtain ⟨e, hv⟩ := exists_zero hx h0
    rw [fpSqrt_value hua (not_signaling_of_finite hx), hv]
    exact gives_zero _
  · obtain ⟨m, e, hv, hm⟩ := exists_neg hx hneg
    rw [fpSqrt_value hua (not_signaling_of_finite hx), hv, sqrtVal_neg hm]
    exact invalid_fpInvalid

theorem negVal_inf {v : FpVal} {n : Bool} (h : v = .inf n) : negVal v = .inf (!n) := by
  rw [h]
  rfl

end

/-- Settles O56: exact results of finite operands from the one rounding, the others by the kinds of the operands. -/
theorem floatingExactResults : Obligations.FloatingExactResults := by
  refine ⟨fun f c a b d ha hb hd => ?_, fun f g c a ha h0 => (computes_fpToFp ha (.inl (.inl h0))).exact h0,
    fun f c i h0 => (computes_intToFp f c i).exact h0, fun f c a b d => ?_⟩
  · exact ⟨fun h0 => (computes_fpAdd ha hb (.inl (.inl h0))).exact h0,
      fun h0 => (computes_fpSub ha hb (.inl (.inl h0))).exact h0,
      fun h0 => (computes_fpMul ha hb (.inl (.inl h0))).exact h0, fpDiv_exact ha hb, fpSqrt_exact ha,
      fun h0 => (computes_fpMadd ha hb hd (.inl (.inl h0))).exact h0,
      fun h0 => (computes_fpMsub ha hb hd (.inl (.inl h0))).exact h0⟩
  · obtain ⟨hone, htwo, hthree⟩ := unusable_causes f c a b d
    refine ⟨hone, htwo, hthree, fun hs => ?_, fun hua => fpSqrt_special hua, fun hua hub => ?_,
      fun hua hub hud => ?_⟩
    · have hua : ¬Unusable f a := not_unusable_of_signaling hs
      exact forall_one (invalid_of_signaling (List.forall_mem_singleton.2 hua) (by simp) hs)
    · have hsum := sum_infinities (c := c) (fpAdd_value hua hub) id id
      have hdiff := sum_infinities (c := c) (fpSub_value hua hub) finite_negVal negVal_inf
      refine ⟨fun hs => ?_, forall_mem_two hsum hdiff, fpAdd_zero hua hub, fpSub_zero hua hub,
        fpMul_zero hua hub, fpMul_inf_inf hua hub, fpMul_inf_finite hua hub, fpMul_finite_inf hua hub,
        fpDiv_zero hua hub, fpDiv_by_zero hua hub⟩
      rcases hs with hs | hs
      · exact forall_two (invalid_of_signaling (forall_mem_two hua hub) (by simp) hs)
      · exact forall_two (invalid_of_signaling (forall_mem_two hua hub) (by simp) hs)
    · have hadd := madd_infinities (c := c) (fpMadd_value hua hub hud false) id id
      have hsub := madd_infinities (c := c) (fpMadd_value hua hub hud true) finite_negVal negVal_inf
      have husable := forall_mem_three (p := fun v => ¬Unusable f v) hua hub hud
      refine ⟨fun hs => ?_, forall_mem_two hadd hsub,
        fun hx hy hz => ⟨fpMadd_zero hua hub hud hx hy hz, fpMsub_zero hua hub hud hx hy hz⟩⟩
      rcases hs with hs | hs | hs | hs
      · exact forall_three (invalid_of_signaling husable (by simp) hs)
      · exact forall_three (invalid_of_signaling husable (by simp) hs)
      · exact forall_three (invalid_of_signaling husable (by simp) hs)
      · exact fpMadd_noProduct hua hub hud hs

end Sys2Proof.Machine
end

section
/-! O55: the compares' predicate (47_fpu.md R745). -/

namespace Sys2Proof.Machine

/-- The order of finite values is that of their rationals. -/
theorem fpOrder_finite {x y : FpVal} (hx : x.finite) (hy : y.finite) :
    fpOrder x y = (decide (x.rat < y.rat), decide (x.rat = y.rat)) := by
  cases x with
  | fin n1 m1 e1 =>
    cases y with
    | fin n2 m2 e2 =>
      have hpow : (0 : ℚ) < 2 ^ min e1 e2 := by positivity
      rw [← signedMag_mul_zpow n1 m1 (min_le_left e1 e2), ← signedMag_mul_zpow n2 m2 (min_le_right e1 e2)]
      simp only [fpOrder, mul_lt_mul_iff_left₀ hpow, mul_left_inj' hpow.ne', Int.cast_lt, Int.cast_inj]
    | inf | qnan | snan => exact hy.elim
  | inf | qnan | snan => exact hx.elim

theorem not_nan_of_finite {f : Fmt} {a : Nat} (h : (fpVal f a).finite) : fpNan f a = false := by
  rw [fpNan, not_quiet_of_finite h, not_signaling_of_finite h]
  rfl

/-- Settles O55: finite operands by the order of their values, a NaN by the unordered bit alone. -/
theorem comparePredicate : Obligations.ComparePredicate := by
  intro f cond a b
  refine ⟨fun ha hb => ?_, fun hnan => ?_⟩
  · have hordered : (fpNan f a || fpNan f b) = false := by rw [not_nan_of_finite ha, not_nan_of_finite hb]; rfl
    unfold fpCompare
    simp [hordered, not_signaling_of_finite ha, not_signaling_of_finite hb, fpOrder_finite ha hb]
  · have hunordered : (fpNan f a || fpNan f b) = true := Bool.or_eq_true_iff.2 hnan
    unfold fpCompare
    simp [hunordered, or_assoc]

end Sys2Proof.Machine
end

section
/-! O51, O52: the operations and the multiply-adds (47_fpu.md R721 to R728, R780 to R784). -/

namespace Sys2Proof.Machine

/-! Every result fits its format. -/

section
variable {f : Fmt} {c : FpCtl}

theorem fpInvalid_lt (f : Fmt) : (fpInvalid f).bits < 2 ^ (signBit f + 1) := defaultNan_lt f

theorem operandCauses_getD_lt {ops : List Nat} {body : FpOut} (h : body.bits < 2 ^ (signBit f + 1)) :
    ((operandCauses f ops).getD body).bits < 2 ^ (signBit f + 1) := by
  unfold operandCauses
  split
  · exact Nat.two_pow_pos _
  · split
    · exact fpInvalid_lt f
    · exact h

theorem addVals_lt (f : Fmt) (c : FpCtl) (x y : FpVal) : (addVals f c x y).bits < 2 ^ (signBit f + 1) := by
  unfold addVals
  split
  · split
    · exact infBits_lt f _
    · exact fpInvalid_lt f
  · exact infBits_lt f _
  · exact infBits_lt f _
  · dsimp only
    split
    · exact zeroBits_lt f _
    · exact roundPack_lt f c _ _ _ _
  · exact fpInvalid_lt f

theorem roundVal_lt (f : Fmt) (c : FpCtl) (v : FpVal) : (roundVal f c v).bits < 2 ^ (signBit f + 1) := by
  cases v with
  | fin n m e =>
    unfold roundVal
    dsimp only
    split
    · exact zeroBits_lt f n
    · exact roundPack_lt f c n m e false
  | inf n => exact infBits_lt f n
  | qnan | snan => exact fpInvalid_lt f

theorem mulVals_lt (f : Fmt) (c : FpCtl) (x y : FpVal) : (mulVals f c x y).bits < 2 ^ (signBit f + 1) := by
  unfold mulVals
  cases mulExact x y with
  | none => exact fpInvalid_lt f
  | some v => exact roundVal_lt f c v

theorem maddVals_lt (f : Fmt) (c : FpCtl) (x y z : FpVal) : (maddVals f c x y z).bits < 2 ^ (signBit f + 1) := by
  unfold maddVals
  cases mulExact x y with
  | none => exact fpInvalid_lt f
  | some v => exact addVals_lt f c v z

theorem divVals_lt (f : Fmt) (c : FpCtl) (x y : FpVal) : (divVals f c x y).bits < 2 ^ (signBit f + 1) := by
  unfold divVals
  split
  · exact fpInvalid_lt f
  · exact infBits_lt f _
  · exact zeroBits_lt f _
  · split
    · split
      · exact fpInvalid_lt f
      · exact infBits_lt f _
    · split
      · exact zeroBits_lt f _
      · exact roundPack_lt f c _ _ _ _
  · exact fpInvalid_lt f

theorem sqrtVal_lt (f : Fmt) (c : FpCtl) (x : FpVal) : (sqrtVal f c x).bits < 2 ^ (signBit f + 1) := by
  unfold sqrtVal
  split
  · exact infBits_lt f _
  · split
    · exact zeroBits_lt f _
    · split
      · exact fpInvalid_lt f
      · exact roundPack_lt f c _ _ _ _
  · exact fpInvalid_lt f

theorem mod_signBit_lt (f : Fmt) (a : Nat) : a % 2 ^ signBit f < 2 ^ (signBit f + 1) :=
  (Nat.mod_lt _ (Nat.two_pow_pos _)).trans (Nat.pow_lt_pow_right Nat.one_lt_two (Nat.lt_succ_self _))

theorem xor_signBit_lt {f : Fmt} {a : Nat} (h : a < 2 ^ (signBit f + 1)) :
    a ^^^ 2 ^ signBit f < 2 ^ (signBit f + 1) :=
  Nat.xor_lt_two_pow h (Nat.pow_lt_pow_right Nat.one_lt_two (Nat.lt_succ_self _))

end

/-! The sign bit. -/

/-- A value without the sign bit. -/
theorem testBit_mod_signBit {f : Fmt} {a : Nat} (h : a < 2 ^ (signBit f + 1)) (k : Nat) :
    (a % 2 ^ signBit f).testBit k = (a.testBit k && k != signBit f) := by
  rw [Nat.testBit_mod_two_pow]
  by_cases hlt : k < signBit f
  · simp [hlt, hlt.ne]
  · by_cases heq : k = signBit f
    · simp [heq]
    · have hhigh : a.testBit k = false :=
        Nat.testBit_lt_two_pow (h.trans_le (Nat.pow_le_pow_right Nat.two_pos (by omega)))
      simp [hlt, hhigh]

/-- A value with the sign bit inverted. -/
theorem testBit_xor_signBit (f : Fmt) (a k : Nat) :
    (a ^^^ 2 ^ signBit f).testBit k = (a.testBit k != (k == signBit f)) := by
  have hsign : decide (signBit f = k) = (k == signBit f) := by
    rw [Bool.eq_iff_iff, decide_eq_true_iff, beq_iff_eq]
    exact eq_comm
  rw [Nat.testBit_xor, Nat.testBit_two_pow, hsign]

/-- An operand that is neither subnormal nor a NaN. -/
theorem operandCauses_of_number {f : Fmt} {a : Nat} (hs : fpSubnormal f a = false) (hn : fpNan f a = false) :
    operandCauses f [a] = none := by
  obtain ⟨hquiet, hsig⟩ : fpQuiet f a = false ∧ fpSignaling f a = false := by
    simpa [fpNan] using hn
  refine operandCauses_none (List.forall_mem_singleton.2 ?_) (List.forall_mem_singleton.2 hsig)
  rintro (h | h)
  · exact Bool.false_ne_true (hs.symm.trans h)
  · exact Bool.false_ne_true (hquiet.symm.trans h)

/-- The two halves of a PS result. -/
theorem psOut_bits {hi lo : FpOut} (h : lo.bits < 2 ^ 32) :
    BitVec.ofNat 64 (psOut hi lo).bits = BitVec.ofNat 32 hi.bits ++ BitVec.ofNat 32 lo.bits := by
  apply BitVec.eq_of_toNat_eq
  rw [BitVec.toNat_append, Nat.shiftLeft_eq, Nat.mul_comm, ← Nat.two_pow_add_eq_or_of_lt (BitVec.isLt _)]
  simp only [psOut, BitVec.toNat_ofNat]
  omega

/-- Settles O51: each operation ends as a floating operation does; the values by the sign bit and the halves. -/
theorem floatingArithmetic : Obligations.FloatingArithmetic := by
  refine ⟨fun s ft fs fd hu => ?_, fun f a k ha hs hn => ?_, fun hi lo => ⟨rfl, psOut_bits⟩,
    fun f c a b ha => ?_⟩
  · refine ⟨fpDoneS rfl hu, fpDoneS rfl hu, fpDoneS rfl hu, fun h => fpDoneS (exec_of_unit rfl hu h) hu,
      fun h => fpDoneS (exec_of_unit rfl hu h) hu, fpDoneS rfl hu, fpDoneS rfl hu, fun hs ht hd => ?_,
      fun hs hd => ?_⟩
    · have hok := all_doubleOk_three hs ht hd
      exact ⟨fpDoneD_double rfl hu hok, fpDoneD_double rfl hu hok, fpDoneD_double rfl hu hok,
        fun h => fpDoneD_double (exec_of_unit rfl hu h) hu hok, fpDoneD_double rfl hu hok,
        fpDoneD_double rfl hu hok, fpDoneD_double rfl hu hok⟩
    · have hok := all_doubleOk_two hs hd
      exact ⟨fun h => fpDoneD_double (exec_of_unit rfl hu h) hu hok, fpDoneD_double rfl hu hok,
        fpDoneD_double rfl hu hok, fpDoneD_double rfl hu hok, fpDoneD_double rfl hu hok⟩
  · have hnone := operandCauses_of_number hs hn
    rw [fpAbs_eq, fpNegate_eq, hnone]
    exact ⟨rfl, testBit_mod_signBit ha k, rfl, testBit_xor_signBit f a k⟩
  · simp only [fpAdd_eq, fpSub_eq, fpMul_eq, fpDiv_eq, fpSqrt_eq, fpAbs_eq, fpNegate_eq, List.forall_mem_cons]
    exact ⟨operandCauses_getD_lt (addVals_lt f c _ _), operandCauses_getD_lt (addVals_lt f c _ _),
      operandCauses_getD_lt (mulVals_lt f c _ _), operandCauses_getD_lt (divVals_lt f c _ _),
      operandCauses_getD_lt (sqrtVal_lt f c _), operandCauses_getD_lt (mod_signBit_lt f a),
      operandCauses_getD_lt (xor_signBit_lt ha), nofun⟩

theorem fpMadd_lt (f : Fmt) (c : FpCtl) (sub : Bool) (a b d : Nat) :
    (fpMadd f c sub a b d).bits < 2 ^ (signBit f + 1) := by
  rw [fpMadd_eq]
  exact operandCauses_getD_lt (maddVals_lt f c _ _ _)

theorem fpNegResult_of_nan {f : Fmt} {o : FpOut} (h : fpNan f o.bits = true) : fpNegResult f o = o := if_pos h

theorem fpNegResult_of_number {f : Fmt} {o : FpOut} (h : fpNan f o.bits = false) :
    fpNegResult f o = { o with bits := o.bits ^^^ 2 ^ signBit f } := if_neg (by simp [h])

/-- Settles O52: each multiply-add ends as a floating operation does; the N forms invert the sign bit. -/
theorem floatingMultiplyAdd : Obligations.FloatingMultiplyAdd := by
  refine ⟨fun s ft fs fd hu => ?_, fun f o k => ?_, fun f c sub a b d => ⟨fpMadd_lt f c sub a b d, ?_⟩⟩
  · refine ⟨fpDoneS rfl hu, fpDoneS rfl hu, fpDoneS rfl hu, fpDoneS rfl hu, fun hs ht hd => ?_⟩
    have hok := all_doubleOk_three hs ht hd
    exact ⟨fpDoneD_double rfl hu hok, fpDoneD_double rfl hu hok, fpDoneD_double rfl hu hok, fpDoneD_double rfl hu hok,
      fpDoneD_double rfl hu hok, fpDoneD_double rfl hu hok, fpDoneD_double rfl hu hok, fpDoneD_double rfl hu hok⟩
  · cases hnan : fpNan f o.bits with
    | true =>
      rw [fpNegResult_of_nan hnan]
      exact ⟨rfl, fun _ => rfl, nofun⟩
    | false =>
      rw [fpNegResult_of_number hnan]
      exact ⟨rfl, nofun, fun _ => testBit_xor_signBit f o.bits k⟩
  · have hlt := fpMadd_lt f c sub a b d
    cases hnan : fpNan f (fpMadd f c sub a b d).bits with
    | true => rwa [fpNegResult_of_nan hnan]
    | false =>
      rw [fpNegResult_of_number hnan]
      exact xor_signBit_lt hlt

end Sys2Proof.Machine
end

section
/-! O53: conversions (47_fpu.md R714, R729 to R743). -/

namespace Sys2Proof.Machine

/-! A magnitude rounded to an integer. -/

/-- A rounded magnitude is never past itself. -/
theorem not_takesNext_self (rm : Rm) (neg : Bool) (q : Nat) : ¬TakesNext rm neg q (q : ℚ) := by
  cases rm with
  | nearest =>
    rintro (h | ⟨h, -⟩)
    · linarith
    · linarith
  | zero => exact id
  | up | down => exact fun h => lt_irrefl _ h.2

/-- The magnitude rounded to units of 1, without loss when the remainder is 0. -/
theorem roundMag_rounded (rm : Rm) (neg : Bool) (m : Nat) (e : Int) :
    RoundedTo rm neg ((m : ℚ) * 2 ^ e) (roundMag rm neg m e).1 0 ((roundMag rm neg m e).2 = false) := by
  unfold roundMag
  split
  · rename_i he
    have hval : (m : ℚ) * 2 ^ e = (m * 2 ^ e.toNat : Nat) := by
      rw [Nat.cast_mul, Nat.cast_pow, Nat.cast_two, ← zpow_natCast, Int.toNat_of_nonneg he]
    have hround := roundedTo_units (rm := rm) (neg := neg) (q := m * 2 ^ e.toNat) (up := false) hval.ge
      (hval.trans_lt (lt_add_one _)) (iff_of_false Bool.false_ne_true (hval ▸ not_takesNext_self rm neg _))
    rwa [eq_true hval, ← eq_true (rfl : false = false)] at hround
  · rename_i he
    have hk : (2 : ℚ) ^ e = (2 ^ (-e).toNat)⁻¹ := by
      rw [← zpow_natCast, Int.toNat_of_nonneg (by omega), zpow_neg, inv_inv]
    have hpow : (0 : ℚ) < 2 ^ (-e).toNat := by positivity
    have hsplit : ((m / 2 ^ (-e).toNat : Nat) : ℚ) * 2 ^ (-e).toNat + (m % 2 ^ (-e).toNat : Nat) = m := by
      exact_mod_cast Nat.div_add_mod' m (2 ^ (-e).toNat)
    have hmod : ((m % 2 ^ (-e).toNat : Nat) : ℚ) < 2 ^ (-e).toNat := by
      exact_mod_cast Nat.mod_lt m (Nat.two_pow_pos _)
    have hrem : ((m : ℚ) * 2 ^ e - (m / 2 ^ (-e).toNat : Nat)) * 2 ^ (-e).toNat = (m % 2 ^ (-e).toNat : Nat) := by
      rw [hk, sub_mul, inv_mul_cancel_right₀ hpow.ne']
      linear_combination -hsplit
    have hfrac : (m : ℚ) * 2 ^ e - (m / 2 ^ (-e).toNat : Nat) = (m % 2 ^ (-e).toNat : Nat) / 2 ^ (-e).toNat :=
      eq_div_of_mul_eq hpow.ne' hrem
    have hnonneg : (0 : ℚ) ≤ (m % 2 ^ (-e).toNat : Nat) / 2 ^ (-e).toNat := by positivity
    have hlt1 := (div_lt_one hpow).2 hmod
    have hround := roundedTo_units (up := roundsUp rm neg (m / 2 ^ (-e).toNat) (m % 2 ^ (-e).toNat) (-e).toNat false)
      (rm := rm) (neg := neg) (q := m / 2 ^ (-e).toNat) (y := (m : ℚ) * 2 ^ e) (by linarith) (by linarith)
      (roundsUp_iff (sticky := false) hrem nofun)
    have hexact : (m : ℚ) * 2 ^ e = (m / 2 ^ (-e).toNat : Nat) ↔ (m % 2 ^ (-e).toNat != 0) = false := by
      rw [← sub_eq_zero, hfrac, div_eq_zero_iff, or_iff_left hpow.ne', Nat.cast_eq_zero, bne_eq_false_iff_eq]
    rwa [hexact] at hround

/-! The integer. -/

/-- An integer rounded in units of 1 is the integer the mode names. -/
theorem roundsToInt_of_roundedTo {rm : Rm} {n : Bool} {y : ℚ} {q : Nat} {exact : Prop} (hy : 0 ≤ y)
    (h : RoundedTo rm n y q 0 exact) : RoundsToInt rm (signFactor n * y) (signedMag n q) := by
  obtain ⟨-, hnear, hbelow, habove⟩ := h
  simp only [zpow_zero, mul_one] at hnear hbelow habove
  have hfloor (h : (q : ℚ) ≤ y ∧ y < q + 1) : ⌊y⌋ = q := Int.floor_eq_iff.2 (by exact_mod_cast h)
  have hceil (h : y ≤ q ∧ (q : ℚ) < y + 1) : ⌈y⌉ = q :=
    Int.ceil_eq_iff.2 ⟨by push_cast; linarith [h.2], by exact_mod_cast h.1⟩
  cases n with
  | false =>
    have hx : signFactor false * y = y := one_mul y
    have hq : signedMag false q = q := rfl
    rw [hx, hq]
    cases rm with
    | nearest =>
      obtain ⟨hle, htie⟩ := hnear rfl
      exact ⟨by exact_mod_cast hle, fun h => by have := htie (by exact_mod_cast h); omega⟩
    | zero =>
      rw [RoundsToInt, if_neg (not_lt.2 hy), hfloor (hbelow (.inl rfl))]
    | up => exact (hceil (habove (.inl ⟨rfl, rfl⟩))).symm
    | down => exact (hfloor (hbelow (.inr (.inr ⟨rfl, rfl⟩)))).symm
  | true =>
    have hx : signFactor true * y = -y := neg_one_mul y
    have hq : signedMag true q = -q := rfl
    rw [hx, hq]
    cases rm with
    | nearest =>
      obtain ⟨hle, htie⟩ := hnear rfl
      have habs : |((-(q : Int) : Int) : ℚ) - -y| = |(q : ℚ) - y| := by
        rw [Int.cast_neg, Int.cast_natCast, ← abs_neg]
        congr 1
        ring
      rw [RoundsToInt, habs]
      exact ⟨hle, fun h => by have := htie h; omega⟩
    | zero =>
      have hfloor := hfloor (hbelow (.inl rfl))
      rw [RoundsToInt, Int.ceil_neg, hfloor]
      split
      · rfl
      · rename_i h
        have hy0 : y = 0 := le_antisymm (by linarith) hy
        rw [hy0, Int.floor_zero] at hfloor
        rw [hy0, neg_zero, Int.floor_zero, ← hfloor, neg_zero]
    | up => rw [RoundsToInt, Int.ceil_neg, hfloor (hbelow (.inr (.inl ⟨rfl, rfl⟩)))]
    | down => rw [RoundsToInt, Int.floor_neg, hceil (habove (.inr ⟨rfl, rfl⟩))]

/-- An integer that fits, by its sign and its size. -/
theorem fits_signedMag_iff (w : Nat) (n : Bool) (q : Nat) :
    Fits w (signedMag n q) ↔ if n then q ≤ 2 ^ (w - 1) else q < 2 ^ (w - 1) := by
  have hpow : ((2 ^ (w - 1) : Nat) : Int) = 2 ^ (w - 1) := by norm_cast
  have hpos := Nat.two_pow_pos (w - 1)
  unfold Fits
  rw [← hpow]
  cases n with
  | false =>
    have hq : signedMag false q = q := rfl
    rw [hq, if_neg Bool.false_ne_true]
    omega
  | true =>
    have hq : signedMag true q = -q := rfl
    rw [hq, if_pos rfl]
    omega

/-- The two's complement pattern of an integer that fits. -/
theorem toInt_signedPattern {w : Nat} {n : Bool} {q : Nat} (hw : 0 < w) (h : Fits w (signedMag n q)) :
    (BitVec.ofNat w (if n then (2 ^ w - q) % 2 ^ w else q)).toInt = signedMag n q := by
  have hhalf : 2 ^ w = 2 * 2 ^ (w - 1) := by rw [← Nat.pow_succ', Nat.succ_eq_add_one, Nat.sub_add_cancel hw]
  have hpos := Nat.two_pow_pos (w - 1)
  rw [fits_signedMag_iff] at h
  rw [BitVec.toInt_eq_toNat_cond, BitVec.toNat_ofNat]
  cases n with
  | false =>
    have hq : signedMag false q = q := rfl
    rw [if_neg Bool.false_ne_true] at h
    rw [hq, if_neg Bool.false_ne_true, Nat.mod_eq_of_lt (by omega), if_pos (by omega)]
  | true =>
    have hq : signedMag true q = -q := rfl
    rw [if_pos rfl] at h
    rw [hq, if_pos rfl, Nat.mod_mod]
    by_cases h0 : q = 0
    · rw [h0, Nat.sub_zero, Nat.mod_self, if_pos (by omega)]
      rfl
    · rw [Nat.mod_eq_of_lt (by omega), if_neg (by omega)]
      omega

/-! The conversion to an integer, by the operand. -/

section
variable {f : Fmt} {w : Nat} {rm : Rm} {a : Nat}

theorem fpToInt_subnormal (h : fpSubnormal f a = true) : fpToInt f w rm a = { causes := causeE, bits := 0 } :=
  if_pos h

theorem fpToInt_not_finite (h : ¬(fpVal f a).finite) : fpToInt f w rm a = intInvalid w (fpNeg f a) := by
  unfold fpToInt
  rw [if_neg fun hs => h (finite_of_subnormal hs)]
  cases hv : fpVal f a with
  | fin =>
    rw [hv] at h
    exact absurd trivial h
  | inf n => rw [← fpVal_inf_sign hv]
  | qnan | snan => rfl

variable {m : Nat} {e : Int}

theorem fpToInt_fits (hs : fpSubnormal f a = false) (hv : fpVal f a = .fin (fpNeg f a) m e)
    (h : Fits w (signedMag (fpNeg f a) (roundMag rm (fpNeg f a) m e).1)) : fpToInt f w rm a =
      { causes := if (roundMag rm (fpNeg f a) m e).2 then causeI else 0
        bits := if fpNeg f a then (2 ^ w - (roundMag rm (fpNeg f a) m e).1) % 2 ^ w
          else (roundMag rm (fpNeg f a) m e).1 } := by
  unfold fpToInt
  rw [if_neg (by simp [hs]), hv]
  exact if_pos ((fits_signedMag_iff w _ _).1 h)

theorem fpToInt_not_fits (hs : fpSubnormal f a = false) (hv : fpVal f a = .fin (fpNeg f a) m e)
    (h : ¬Fits w (signedMag (fpNeg f a) (roundMag rm (fpNeg f a) m e).1)) :
    fpToInt f w rm a = intInvalid w (fpNeg f a) := by
  unfold fpToInt
  rw [if_neg (by simp [hs]), hv]
  exact if_neg (h ∘ (fits_signedMag_iff w _ _).2)

/-- The integer of a finite operand: rounded once, and the result when it fits. -/
theorem fpToInt_finite (hw : 0 < w) (hs : fpSubnormal f a = false) (ha : (fpVal f a).finite) :
    ∃ n : Int, RoundsToInt rm (fpVal f a).rat n
      ∧ (Fits w n → (BitVec.ofNat w (fpToInt f w rm a).bits).toInt = n
        ∧ (fpToInt f w rm a).causes = if (n : ℚ) = (fpVal f a).rat then 0 else causeI)
      ∧ (¬Fits w n → fpToInt f w rm a = intInvalid w (fpNeg f a)) := by
  obtain ⟨m, e, hv⟩ := exists_fin ha
  have hround := roundMag_rounded rm (fpNeg f a) m e
  have hint := roundsToInt_of_roundedTo (by positivity) hround
  rw [← rat_fin, ← hv] at hint
  refine ⟨_, hint, fun hfits => ?_, fpToInt_not_fits hs hv⟩
  have hexact : (roundMag rm (fpNeg f a) m e).2 = false ↔
      (signedMag (fpNeg f a) (roundMag rm (fpNeg f a) m e).1 : ℚ) = (fpVal f a).rat := by
    rw [hround.1, zpow_zero, mul_one, hv, rat_fin, signedMag_cast]
    exact (mul_right_inj' (signFactor_ne_zero _)).symm
  rw [fpToInt_fits hs hv hfits]
  refine ⟨toInt_signedPattern hw hfits, ?_⟩
  dsimp only
  rw [← if_congr hexact rfl rfl]
  cases (roundMag rm (fpNeg f a) m e).2 with
  | false => rfl
  | true => rfl

end

/-- Settles O53: each conversion ends as a floating operation does, on the width of its result; the integer by the
one rounding. -/
theorem floatingConversions : Obligations.FloatingConversions := by
  refine ⟨fun s fs fd hu => ?_, fun f w rm a hw => ⟨fun hs => ?_, fun ha => ?_, fun hs ha => ?_⟩,
    fun f g c a neg => ⟨fun h => ?_, fun h => ?_, fun h => ?_⟩⟩
  · have one {r : Reg} (h : s.doubleOk r = true) := all_doubleOk_one h
    have two {r r' : Reg} (h : s.doubleOk r = true) (h' : s.doubleOk r' = true) := all_doubleOk_two h h'
    have hword : (BitVec.ofNat 32 (s.fprS fs).toNat).toInt = (s.fprS fs).toInt := by simp
    have hdouble : (BitVec.ofNat 64 (s.fprAt fs).toNat).toInt = (s.fprAt fs).toInt := by simp
    dsimp only
    rw [← hword, ← hdouble]
    exact ⟨fpDoneS rfl hu, fun hs => fpDoneS_double rfl hu (one hs), fun hd => fpDoneD_double rfl hu (one hd),
      fun hs hd => fpDoneD_double rfl hu (two hs hd), fpDoneS rfl hu, fun hs => fpDoneS_double rfl hu (one hs),
      fun hd => fpDoneD_double rfl hu (one hd), fun hs hd => fpDoneD_double rfl hu (two hs hd),
      fpDoneS rfl hu, fun hs => fpDoneS_double rfl hu (one hs), fun hd => fpDoneD_double rfl hu (one hd),
      fun hs hd => fpDoneD_double rfl hu (two hs hd), fpDoneS rfl hu, fun hs => fpDoneS_double rfl hu (one hs),
      fun hd => fpDoneD_double rfl hu (one hd), fun hs hd => fpDoneD_double rfl hu (two hs hd),
      fpDoneS rfl hu, fun hs => fpDoneS_double rfl hu (one hs), fun hd => fpDoneD_double rfl hu (one hd),
      fun hs hd => fpDoneD_double rfl hu (two hs hd), fun hs => fpDoneS_double rfl hu (one hs),
      fpDoneS rfl hu, fun hs => fpDoneS_double rfl hu (one hs), fun hd => fpDoneD_double rfl hu (one hd),
      fun hd => fpDoneD_double rfl hu (one hd), fun hs hd => fpDoneD_double rfl hu (two hs hd)⟩
  · rw [fpToInt_subnormal hs]
  · rw [fpToInt_not_finite ha]
    exact ⟨rfl, rfl⟩
  · obtain ⟨n, hround, hfits, hout⟩ := fpToInt_finite (rm := rm) (by omega : 0 < w) hs ha
    refine ⟨n, hround, hfits, fun hn => ?_⟩
    rw [hout hn]
    exact ⟨rfl, rfl⟩
  · have husable : ¬Unusable f a := not_unusable_of_inf h
    rw [fpToFp_value husable (not_signaling_of_inf h), h]
    exact gives_inf neg
  · rw [fpToFp_signaling (not_unusable_of_signaling h) h]
    rfl
  · rw [fpToFp_unusable h.symm]

end Sys2Proof.Machine
end
